-- ==== Sys2Proof/Word.lean ====
section
/-! DEFINITION. The word and the field types of the CORE (R9, R30, R101): plain bit vectors. -/

namespace Sys2Proof

/-- A 24-bit word; bit 23 is the sign, bits 22..0 the magnitude (R30). -/
abbrev Word := BitVec 24

/-- The 6-bit channel field C (R101). -/
abbrev Channel := BitVec 6

/-- The 7-bit sector field S (R101); 128 sectors a channel (R9). -/
abbrev Sector := BitVec 7

/-- The 4-bit next-sector pointer Sp (R103). -/
abbrev NextSector := BitVec 4

/-- The 4-bit primary opcode OP (R105). -/
abbrev Opcode := BitVec 4

end Sys2Proof
end

