-- ==== Sys2Proof/Machine/Alu.lean ====
section
/-! DEFINITION. The ALU, the multiplier and divider, and the shifter as functions of words (40_arithmetic.md section 1,
41_multiply_divide.md, R221). Operands are read as exact integers, and narrowed once at the end. -/

namespace Sys2Proof.Machine

/-- `sign(w) = w[23]` (R13). -/
def sign (w : Word) : Bool := w.getLsbD 23

/-- `mag(w) = w[22:0]` (R13). -/
def mag (w : Word) : Nat := (w.extractLsb' 0 23).toNat

/-- `SM(s, m) = (s << 23) | m`, with the magnitude taken modulo 2^23 (R13). -/
def signMag (s : Bool) (m : Nat) : Word := BitVec.ofBool s ++ BitVec.ofNat 23 m

/-- `to_signed(w)` (R140). -/
def toSigned (w : Word) : Int := if sign w then -(mag w : Int) else (mag w : Int)

/-- `from_signed(x)` for x in [-(2^23-1), 2^23-1] (R141). -/
def fromSigned (x : Int) : Word := signMag (decide (x < 0)) x.natAbs

/-- `sat23(x)`: clamp to the representable range, with `MAXMAG = 2^23 - 1 = 0x7FFFFF` (R142). -/
def sat23 (x : Int) : Int := if x > 0x7FFFFF then 0x7FFFFF else if x < -0x7FFFFF then -0x7FFFFF else x

/-- `add(a, b)` (R143). -/
def smAdd (a b : Word) : Word := fromSigned (sat23 (toSigned a + toSigned b))

/-- `sub(a, b)` (R144). -/
def smSub (a b : Word) : Word := fromSigned (sat23 (toSigned a - toSigned b))

/-- `complement(a) = a ^ 0x800000` (R145). -/
def complement (a : Word) : Word := a ^^^ 0x800000#24

/-- `minus_magnitude(a) = a | 0x800000` (R146). -/
def minusMagnitude (a : Word) : Word := a ||| 0x800000#24

/-- `hi(w) = w[23:12]` (R147). -/
def hi (w : Word) : BitVec 12 := w.extractLsb' 12 12

/-- `lo(w) = w[11:0]` (R147). -/
def lo (w : Word) : BitVec 12 := w.extractLsb' 0 12

/-- `pack(h, l)` (R147). -/
def pack (h l : BitVec 12) : Word := h ++ l

/-- Apply a lane function to both lanes of one word. -/
def mapLanes (f : BitVec 12 → BitVec 12) (a : Word) : Word := pack (f (hi a)) (f (lo a))

/-- Apply a lane function to the corresponding lanes of two words (R159). -/
def zipLanes (f : BitVec 12 → BitVec 12 → BitVec 12) (a b : Word) : Word := pack (f (hi a) (hi b)) (f (lo a) (lo b))

/-- `lane_add(x, y)`: modulo 4096 (R148). -/
def laneAdd (x y : BitVec 12) : BitVec 12 := x + y

/-- `lane_sub(x, y)`: modulo 4096 (R148). -/
def laneSub (x y : BitVec 12) : BitVec 12 := x - y

/-- `clamp12(x, y)`: lanes as twelve-bit two's complement, the accumulator lane clamped to the magnitude of the operand lane
with its own sign (R158). -/
def clamp12 (x y : BitVec 12) : BitVec 12 :=
  let a := x.toInt
  let m := y.toInt
  if a.natAbs > m.natAbs then BitVec.ofInt 12 (if a < 0 then -(m.natAbs : Int) else (m.natAbs : Int)) else x

/-- `lane_shl(x, n)`: truncating (R221). -/
def laneShl (n : Nat) (x : BitVec 12) : BitVec 12 := x <<< n

/-- `lane_shr(x, n)`: logical (R221). -/
def laneShr (n : Nat) (x : BitVec 12) : BitVec 12 := x >>> n

/-- `rotl24(w, n)` for n in [1, 8] (R221). -/
def rotl24 (w : Word) (n : Nat) : Word := (w <<< n) ||| (w >>> (24 - n))

/-- `rotr24(w, n)` for n in [1, 8] (R221). -/
def rotr24 (w : Word) (n : Nat) : Word := (w >>> n) ||| (w <<< (24 - n))

/-- What the multiplier or divider leaves in the accumulator pair, and whether it signals `error`. -/
structure PairResult where
  a : Word
  l : Word
  error : Bool
deriving DecidableEq, Repr

/-- `mul_core(sa, ma, sm, mm)`: the 46-bit product split over A and L (R180). No multiply signals `error` (R189). -/
def mulCore (sa : Bool) (ma : Nat) (sm : Bool) (mm : Nat) : PairResult :=
  { a := signMag (sa ^^ sm) (ma * mm / 2 ^ 23), l := signMag false (ma * mm % 2 ^ 23), error := false }

/-- The magnitude of `reduce10(w)`: `w[22:14]` (R183). -/
def mag10 (w : Word) : Nat := (w.extractLsb' 14 9).toNat

/-- MPY of A by M (R182). -/
def mulWords (a m : Word) : PairResult := mulCore (sign a) (mag a) (sign m) (mag m)

/-- SMP of A by M: both reduced to sign and nine magnitude bits (R183, R184). -/
def mulReduced (a m : Word) : PairResult := mulCore (sign a) (mag10 a) (sign m) (mag10 m)

/-- MPM of A by M: both signs cleared first (R185). -/
def mulMagnitudes (a m : Word) : PairResult := mulCore false (mag a) false (mag m)

/-- The 46-bit magnitude of the pair A:L, `(mag(A) << 23) | mag(L)` (R32, R186). -/
def pairMag (a l : Word) : Nat := mag a * 2 ^ 23 + mag l

/-- DIV of A:L by M (R186): a divisor of magnitude 0 leaves the pair as it was; a quotient over 23 bits saturates; both
signal `error`; the remainder is the true one, signed like the dividend unless it is 0. -/
def divWords (a l m : Word) : PairResult :=
  if mag m = 0 then { a := a, l := l, error := true }
  else
    { a := signMag (sign a ^^ sign m) (min (pairMag a l / mag m) 0x7FFFFF)
      l := signMag (!decide (pairMag a l % mag m = 0) && sign a) (pairMag a l % mag m)
      error := decide (pairMag a l / mag m > 0x7FFFFF) }

/-- `v = to_signed(A >> 15)` as a signed 16-bit value (R309, D25). -/
def voltageOf (a : Word) : BitVec 16 := BitVec.ofInt 16 (toSigned (a >>> 15))

/-- `b = A[23:22]` (R310). -/
def topBits (a : Word) : BitVec 2 := a.extractLsb' 22 2

end Sys2Proof.Machine
end

