-- ==== Sys2Proof/Config.lean ====
section
/-! DEFINITION. The implementation parameters of R8: their types, and the values `State.reset` is built with.
The parameters themselves stand in `State` (R360: fixed by init, constant afterwards), so that a claim about every
state is a claim about every construction. -/

namespace Sys2Proof

/-- The two values of the parameter `MEM_WORDS` (R8, D3). -/
inductive MemSize
  /-- 2944 words, the D17B size. -/
  | d17b
  /-- 7222 words, the D37C size (the default). -/
  | d37c
deriving DecidableEq, Repr

/-- `MEM_WORDS` as a number (R8). -/
def MemSize.words : MemSize → Nat
  | .d17b => 2944
  | .d37c => 7222

/-- `BULK_CHANNELS` = 47, decimal: bulk channels are 0 to 46 (R8, D4). -/
def Config.bulkChannels : Nat := 47

/-- `D37C_MODE` of the machine `State.reset` builds. DESIGN CHOICE (log 3): the spec leaves it OPEN (D2). -/
def Config.d37cMode : Bool := true

/-- `MEM_WORDS` of the machine `State.reset` builds: the default of R8 (log 4). -/
def Config.memSize : MemSize := .d37c

/-- The default `FLAG_STORE_OPS` of R8 and R200: SMP, MPY, MPM/DIV, CLA, SAD, ADD, SSU, SUB (log 5). -/
def Config.flagStoreOps : List Opcode := [4#4, 5#4, 7#4, 9#4, 12#4, 13#4, 14#4, 15#4]

end Sys2Proof
end

