-- ==== Sys2Proof/Syntax.lean ====
section
/-! DEFINITION. The instructions: one constructor per row of spec/opcode_table.json.
Every instruction carries FLAG, Sp, C and the information of S (R101, R115), also where its family ignores them under the
default parameters (R112), since FLAG acts on any opcode of `FLAG_STORE_OPS` (R252; log 14, log 19). -/

namespace Sys2Proof

/-- The instruction set (R105, R109, R110). `flag` is bit 19, `sp` the next-sector pointer, `c` the channel field,
`sec` the sector field, `n` a shift count (R108), `b` is S[0] of a special word (R110). -/
inductive Instr
  /-- SCL (R157). -/
  | scl (flag : Bool) (sp : NextSector) (c : Channel) (sec : Sector)
  /-- TMI2 (D17B mode) (R262). -/
  | tmi2 (flag : Bool) (sp : NextSector) (c : Channel) (sec : Sector)
  /-- TZE (D37C mode) (R262). -/
  | tze (flag : Bool) (sp : NextSector) (c : Channel) (sec : Sector)
  /-- OP3, the unassigned opcode 3 (R264). -/
  | op3 (flag : Bool) (sp : NextSector) (c : Channel) (sec : Sector)
  /-- SMP (R184). -/
  | smp (flag : Bool) (sp : NextSector) (c : Channel) (sec : Sector)
  /-- MPY (R182). -/
  | mpy (flag : Bool) (sp : NextSector) (c : Channel) (sec : Sector)
  /-- TMI (R261). -/
  | tmi (flag : Bool) (sp : NextSector) (c : Channel) (sec : Sector)
  /-- MPM (D17B mode) (R185). -/
  | mpm (flag : Bool) (sp : NextSector) (c : Channel) (sec : Sector)
  /-- DIV (D37C mode) (R186). -/
  | div (flag : Bool) (sp : NextSector) (c : Channel) (sec : Sector)
  /-- CLA (R152). -/
  | cla (flag : Bool) (sp : NextSector) (c : Channel) (sec : Sector)
  /-- TRA (R260). -/
  | tra (flag : Bool) (sp : NextSector) (c : Channel) (sec : Sector)
  /-- STO (R263). -/
  | sto (flag : Bool) (sp : NextSector) (c : Channel) (sec : Sector)
  /-- SAD (R155). -/
  | sad (flag : Bool) (sp : NextSector) (c : Channel) (sec : Sector)
  /-- ADD (R153). -/
  | add (flag : Bool) (sp : NextSector) (c : Channel) (sec : Sector)
  /-- SSU (R156). -/
  | ssu (flag : Bool) (sp : NextSector) (c : Channel) (sec : Sector)
  /-- SUB (R154). -/
  | sub (flag : Bool) (sp : NextSector) (c : Channel) (sec : Sector)
  /-- SAL by `n` bits (R222). -/
  | sal (flag : Bool) (sp : NextSector) (c : Channel) (n : Nat)
  /-- ALS by `n` bits (R223). -/
  | als (flag : Bool) (sp : NextSector) (c : Channel) (n : Nat)
  /-- SLL by `n` bits (R224). -/
  | sll (flag : Bool) (sp : NextSector) (c : Channel) (n : Nat)
  /-- SRL (D17B mode) by `n` bits (R225). -/
  | srl (flag : Bool) (sp : NextSector) (c : Channel) (n : Nat)
  /-- ALC (D37C mode) by `n` bits (R226). -/
  | alc (flag : Bool) (sp : NextSector) (c : Channel) (n : Nat)
  /-- SAR by `n` bits (R227). -/
  | sar (flag : Bool) (sp : NextSector) (c : Channel) (n : Nat)
  /-- ARS by `n` bits (R228). -/
  | ars (flag : Bool) (sp : NextSector) (c : Channel) (n : Nat)
  /-- SLR by `n` bits (R229). -/
  | slr (flag : Bool) (sp : NextSector) (c : Channel) (n : Nat)
  /-- SRR (D17B mode) by `n` bits (R230). -/
  | srr (flag : Bool) (sp : NextSector) (c : Channel) (n : Nat)
  /-- ARC (D37C mode) by `n` bits (R231). -/
  | arc (flag : Bool) (sp : NextSector) (c : Channel) (n : Nat)
  /-- SHNOP: shift sub-op `subop` below 8, with S[2:0] = `cnt` (R233). -/
  | shnop (flag : Bool) (sp : NextSector) (c : Channel) (subop : BitVec 4) (cnt : BitVec 3)
  /-- COA: no instruction word encodes it (R232, C3; log 8). -/
  | coa (flag : Bool) (sp : NextSector) (c : Channel) (n : Nat)
  /-- BOC (R310). -/
  | boc (flag : Bool) (sp : NextSector) (c : Channel) (b : Bool)
  /-- BOA (R310). -/
  | boa (flag : Bool) (sp : NextSector) (c : Channel) (b : Bool)
  /-- BOB (R310). -/
  | bob (flag : Bool) (sp : NextSector) (c : Channel) (b : Bool)
  /-- RSD (R301). -/
  | rsd (flag : Bool) (sp : NextSector) (c : Channel) (b : Bool)
  /-- HPR (R300). -/
  | hpr (flag : Bool) (sp : NextSector) (c : Channel) (b : Bool)
  /-- DOA (R308). -/
  | doa (flag : Bool) (sp : NextSector) (c : Channel) (b : Bool)
  /-- VOA (R309). -/
  | voa (flag : Bool) (sp : NextSector) (c : Channel) (b : Bool)
  /-- VOB (R309). -/
  | vob (flag : Bool) (sp : NextSector) (c : Channel) (b : Bool)
  /-- VOC (R309). -/
  | voc (flag : Bool) (sp : NextSector) (c : Channel) (b : Bool)
  /-- ORA (D37C mode) (R304). -/
  | ora (flag : Bool) (sp : NextSector) (c : Channel) (b : Bool)
  /-- ANA (R303). -/
  | ana (flag : Bool) (sp : NextSector) (c : Channel) (b : Bool)
  /-- MIM (R305). -/
  | mim (flag : Bool) (sp : NextSector) (c : Channel) (b : Bool)
  /-- COM (R306). -/
  | com (flag : Bool) (sp : NextSector) (c : Channel) (b : Bool)
  /-- DIB (R307). -/
  | dib (flag : Bool) (sp : NextSector) (c : Channel) (b : Bool)
  /-- DIA (R307). -/
  | dia (flag : Bool) (sp : NextSector) (c : Channel) (b : Bool)
  /-- HFC (R302). -/
  | hfc (flag : Bool) (sp : NextSector) (c : Channel) (b : Bool)
  /-- EFC (R302). -/
  | efc (flag : Bool) (sp : NextSector) (c : Channel) (b : Bool)
  /-- LPR with P value `p` = S[2:0] (R311, R111). -/
  | lpr (flag : Bool) (sp : NextSector) (c : Channel) (p : BitVec 3)
  /-- SPNOP: an unlisted special sub-op `subop` (R312). -/
  | spnop (flag : Bool) (sp : NextSector) (c : Channel) (subop : BitVec 6) (b : Bool)
deriving DecidableEq, Repr

end Sys2Proof
end

