-- ==== Sys2Proof/WellFormed.lean ====
section
/-! DEFINITION. Which instruction terms the encoding admits, in a machine whose `d37c_mode` is `m`. -/

namespace Sys2Proof

/-- A shift count is 1 to 8 (R108). -/
def countOk (n : Nat) : Bool := decide (1 ≤ n) && decide (n ≤ 8)

/-- The special sub-ops that R110 lists; 0x10 names ORA in D37C mode only (R115). -/
def listedSpecial (m : Bool) (sub : BitVec 6) : Bool :=
  [0x01#6, 0x04#6, 0x05#6, 0x08#6, 0x09#6, 0x0B#6, 0x0C#6, 0x0D#6, 0x0E#6, 0x11#6, 0x12#6, 0x13#6, 0x14#6, 0x15#6,
    0x18#6, 0x19#6, 0x1E#6, 0x1F#6].contains sub || (m && sub == 0x10#6)

/-- The instruction is one that some word encodes in mode `m`: its mode is `m` where R115 makes it depend on the mode, its
count, sub-op or P value is in the range its encoding can hold (R108, R111, R233, R312), and it is not COA (R232). -/
def wellFormed (m : Bool) : Instr → Bool
  | .scl _ _ _ _ => true
  | .tmi2 _ _ _ _ => !m
  | .tze _ _ _ _ => m
  | .op3 _ _ _ _ => true
  | .smp _ _ _ _ => true
  | .mpy _ _ _ _ => true
  | .tmi _ _ _ _ => true
  | .mpm _ _ _ _ => !m
  | .div _ _ _ _ => m
  | .cla _ _ _ _ => true
  | .tra _ _ _ _ => true
  | .sto _ _ _ _ => true
  | .sad _ _ _ _ => true
  | .add _ _ _ _ => true
  | .ssu _ _ _ _ => true
  | .sub _ _ _ _ => true
  | .sal _ _ _ n => countOk n
  | .als _ _ _ n => countOk n
  | .sll _ _ _ n => countOk n
  | .srl _ _ _ n => !m && countOk n
  | .alc _ _ _ n => m && countOk n
  | .sar _ _ _ n => countOk n
  | .ars _ _ _ n => countOk n
  | .slr _ _ _ n => countOk n
  | .srr _ _ _ n => !m && countOk n
  | .arc _ _ _ n => m && countOk n
  | .shnop _ _ _ subop _ => decide (subop.toNat < 8)
  | .coa _ _ _ _ => false
  | .boc _ _ _ _ => true
  | .boa _ _ _ _ => true
  | .bob _ _ _ _ => true
  | .rsd _ _ _ _ => true
  | .hpr _ _ _ _ => true
  | .doa _ _ _ _ => true
  | .voa _ _ _ _ => true
  | .vob _ _ _ _ => true
  | .voc _ _ _ _ => true
  | .ora _ _ _ _ => m
  | .ana _ _ _ _ => true
  | .mim _ _ _ _ => true
  | .com _ _ _ _ => true
  | .dib _ _ _ _ => true
  | .dia _ _ _ _ => true
  | .hfc _ _ _ _ => true
  | .efc _ _ _ _ => true
  | .lpr _ _ _ p => decide (4 ≤ p.toNat)
  | .spnop _ _ _ subop _ => !listedSpecial m subop

end Sys2Proof
end

