-- ==== Sys2Proof/Decode.lean ====
section
/-! DEFINITION. The fields of an instruction word, the decoder, and after it the encoder (30_encoding.md). -/

namespace Sys2Proof

/-- `OP = w[23:20]` (R101). -/
def opField (w : Word) : Opcode := w.extractLsb' 20 4

/-- `FLAG = w[19]` (R101). -/
def flagField (w : Word) : Bool := w.getLsbD 19

/-- `Sp = w[18:15]` (R101). -/
def spField (w : Word) : NextSector := w.extractLsb' 15 4

/-- `chan(x) = x[14:9]`: the channel of I, and the field C of an instruction word (R15, R101). -/
def chan (x : Word) : Channel := x.extractLsb' 9 6

/-- `sect(x) = x[8:2]`: the sector of I, and the field S of an instruction word (R15, R101). -/
def sect (x : Word) : Sector := x.extractLsb' 2 7

/-- `loc(ch, sec) = (ch << 9) | (sec << 2)` as a 24-bit word (R15, R34). -/
def loc (ch : Channel) (sec : Sector) : Word := 0#9 ++ ch ++ sec ++ 0#2

/-- The low three bits of S: the flag code, the shift count field, the P value of LPR (R102, R108, R111). -/
def lowBits (sec : Sector) : BitVec 3 := sec.extractLsb' 0 3

/-- The shift sub-op `S[6:3]` (R108). -/
def shiftSub (sec : Sector) : BitVec 4 := sec.extractLsb' 3 4

/-- The shift count: the count field, with 0 meaning 8 (R108). -/
def shiftCount (cnt : BitVec 3) : Nat := if cnt = 0#3 then 8 else cnt.toNat

/-- The special sub-op `S[6:1]` (R110). -/
def specialSub (sec : Sector) : BitVec 6 := sec.extractLsb' 1 6

/-- `S[0]`, which no special sub-op but LPR uses (R290). -/
def specialBit (sec : Sector) : Bool := sec.getLsbD 0

/-- The shift family, OP = 0 (R109, R115). -/
def decodeShift (m flag : Bool) (sp : NextSector) (c : Channel) (sec : Sector) : Instr :=
  let n := shiftCount (lowBits sec)
  match shiftSub sec with
  | 8#4 => .sal flag sp c n
  | 9#4 => .als flag sp c n
  | 10#4 => .sll flag sp c n
  | 11#4 => if m then .alc flag sp c n else .srl flag sp c n
  | 12#4 => .sar flag sp c n
  | 13#4 => .ars flag sp c n
  | 14#4 => .slr flag sp c n
  | 15#4 => if m then .arc flag sp c n else .srr flag sp c n
  | subop => .shnop flag sp c subop (lowBits sec)

/-- The special family, OP = 8 (R110, R115). -/
def decodeSpecial (m flag : Bool) (sp : NextSector) (c : Channel) (sec : Sector) : Instr :=
  let b := specialBit sec
  match specialSub sec with
  | 0x01#6 => .boc flag sp c b
  | 0x04#6 => .boa flag sp c b
  | 0x05#6 => .bob flag sp c b
  | 0x08#6 => .rsd flag sp c b
  | 0x09#6 => .hpr flag sp c b
  | 0x0B#6 => .doa flag sp c b
  | 0x0C#6 => .voa flag sp c b
  | 0x0D#6 => .vob flag sp c b
  | 0x0E#6 => .voc flag sp c b
  | 0x10#6 => if m then .ora flag sp c b else .spnop flag sp c 0x10#6 b
  | 0x11#6 => .ana flag sp c b
  | 0x12#6 => .mim flag sp c b
  | 0x13#6 => .com flag sp c b
  | 0x14#6 => .dib flag sp c b
  | 0x15#6 => .dia flag sp c b
  | 0x18#6 => .hfc flag sp c b
  | 0x19#6 => .efc flag sp c b
  | 0x1E#6 => .lpr flag sp c (lowBits sec)
  | 0x1F#6 => .lpr flag sp c (lowBits sec)
  | subop => .spnop flag sp c subop b

/-- The decoder: a total function of the word and the mode bit `m = d37c_mode` (R115). No word is illegal (R113). -/
def decode (m : Bool) (w : Word) : Instr :=
  let flag := flagField w
  let sp := spField w
  let c := chan w
  let sec := sect w
  match opField w with
  | 0#4 => decodeShift m flag sp c sec
  | 1#4 => .scl flag sp c sec
  | 2#4 => if m then .tze flag sp c sec else .tmi2 flag sp c sec
  | 3#4 => .op3 flag sp c sec
  | 4#4 => .smp flag sp c sec
  | 5#4 => .mpy flag sp c sec
  | 6#4 => .tmi flag sp c sec
  | 7#4 => if m then .div flag sp c sec else .mpm flag sp c sec
  | 8#4 => decodeSpecial m flag sp c sec
  | 9#4 => .cla flag sp c sec
  | 10#4 => .tra flag sp c sec
  | 11#4 => .sto flag sp c sec
  | 12#4 => .sad flag sp c sec
  | 13#4 => .add flag sp c sec
  | 14#4 => .ssu flag sp c sec
  | _ => .sub flag sp c sec

/-- Why a bit string is no instruction word. -/
inductive DecodeRefusal
  /-- More than 24 bits: every instruction is one 24-bit word (R100). Safe: no machine word is refused. -/
  | tooWide
deriving DecidableEq, Repr

/-- The decoder on an unbounded bit string, given as a number (bit 0 least significant). -/
def decodeBits (m : Bool) (w : Nat) : Except DecodeRefusal Instr :=
  if w < 2 ^ 24 then .ok (decode m (BitVec.ofNat 24 w)) else .error .tooWide

/-- What the decoder reads from an opcode-table word, in the mode `State.reset` has (log 12): `nbits` is always 24, the one
instruction length (R100). -/
def decodeTableWord (_nbits w : Nat) : Option Instr :=
  match decodeBits Config.d37cMode w with
  | .ok i => some i
  | .error _ => none

/-- S of a shift word: `(sub_op << 3) | (n mod 8)` (R116). -/
def shiftSector (sub : BitVec 4) (n : Nat) : Sector := sub ++ BitVec.ofNat 3 n

/-- S of a special word: `(sub_op << 1) | b` (R116). -/
def specialSector (sub : BitVec 6) (b : Bool) : Sector := sub ++ BitVec.ofBool b

/-- S of LPR: `0x38 | p` (R116). -/
def lprSector (p : BitVec 3) : Sector := 7#4 ++ p

/-- The fields every instruction carries beside OP and S (R115). -/
structure Head where
  flag : Bool
  sp : NextSector
  c : Channel
deriving DecidableEq, Repr

/-- FLAG, Sp and C of an instruction (R101). -/
def Instr.head : Instr → Head
  | .scl flag sp c _ => ⟨flag, sp, c⟩
  | .tmi2 flag sp c _ => ⟨flag, sp, c⟩
  | .tze flag sp c _ => ⟨flag, sp, c⟩
  | .op3 flag sp c _ => ⟨flag, sp, c⟩
  | .smp flag sp c _ => ⟨flag, sp, c⟩
  | .mpy flag sp c _ => ⟨flag, sp, c⟩
  | .tmi flag sp c _ => ⟨flag, sp, c⟩
  | .mpm flag sp c _ => ⟨flag, sp, c⟩
  | .div flag sp c _ => ⟨flag, sp, c⟩
  | .cla flag sp c _ => ⟨flag, sp, c⟩
  | .tra flag sp c _ => ⟨flag, sp, c⟩
  | .sto flag sp c _ => ⟨flag, sp, c⟩
  | .sad flag sp c _ => ⟨flag, sp, c⟩
  | .add flag sp c _ => ⟨flag, sp, c⟩
  | .ssu flag sp c _ => ⟨flag, sp, c⟩
  | .sub flag sp c _ => ⟨flag, sp, c⟩
  | .sal flag sp c _ => ⟨flag, sp, c⟩
  | .als flag sp c _ => ⟨flag, sp, c⟩
  | .sll flag sp c _ => ⟨flag, sp, c⟩
  | .srl flag sp c _ => ⟨flag, sp, c⟩
  | .alc flag sp c _ => ⟨flag, sp, c⟩
  | .sar flag sp c _ => ⟨flag, sp, c⟩
  | .ars flag sp c _ => ⟨flag, sp, c⟩
  | .slr flag sp c _ => ⟨flag, sp, c⟩
  | .srr flag sp c _ => ⟨flag, sp, c⟩
  | .arc flag sp c _ => ⟨flag, sp, c⟩
  | .coa flag sp c _ => ⟨flag, sp, c⟩
  | .boc flag sp c _ => ⟨flag, sp, c⟩
  | .boa flag sp c _ => ⟨flag, sp, c⟩
  | .bob flag sp c _ => ⟨flag, sp, c⟩
  | .rsd flag sp c _ => ⟨flag, sp, c⟩
  | .hpr flag sp c _ => ⟨flag, sp, c⟩
  | .doa flag sp c _ => ⟨flag, sp, c⟩
  | .voa flag sp c _ => ⟨flag, sp, c⟩
  | .vob flag sp c _ => ⟨flag, sp, c⟩
  | .voc flag sp c _ => ⟨flag, sp, c⟩
  | .ora flag sp c _ => ⟨flag, sp, c⟩
  | .ana flag sp c _ => ⟨flag, sp, c⟩
  | .mim flag sp c _ => ⟨flag, sp, c⟩
  | .com flag sp c _ => ⟨flag, sp, c⟩
  | .dib flag sp c _ => ⟨flag, sp, c⟩
  | .dia flag sp c _ => ⟨flag, sp, c⟩
  | .hfc flag sp c _ => ⟨flag, sp, c⟩
  | .efc flag sp c _ => ⟨flag, sp, c⟩
  | .lpr flag sp c _ => ⟨flag, sp, c⟩
  | .shnop flag sp c _ _ => ⟨flag, sp, c⟩
  | .spnop flag sp c _ _ => ⟨flag, sp, c⟩

/-- OP of an instruction (R105). -/
def Instr.opcode : Instr → Opcode
  | .scl _ _ _ _ => 1#4
  | .tmi2 _ _ _ _ => 2#4
  | .tze _ _ _ _ => 2#4
  | .op3 _ _ _ _ => 3#4
  | .smp _ _ _ _ => 4#4
  | .mpy _ _ _ _ => 5#4
  | .tmi _ _ _ _ => 6#4
  | .mpm _ _ _ _ => 7#4
  | .div _ _ _ _ => 7#4
  | .cla _ _ _ _ => 9#4
  | .tra _ _ _ _ => 10#4
  | .sto _ _ _ _ => 11#4
  | .sad _ _ _ _ => 12#4
  | .add _ _ _ _ => 13#4
  | .ssu _ _ _ _ => 14#4
  | .sub _ _ _ _ => 15#4
  | .sal _ _ _ _ => 0#4
  | .als _ _ _ _ => 0#4
  | .sll _ _ _ _ => 0#4
  | .srl _ _ _ _ => 0#4
  | .alc _ _ _ _ => 0#4
  | .sar _ _ _ _ => 0#4
  | .ars _ _ _ _ => 0#4
  | .slr _ _ _ _ => 0#4
  | .srr _ _ _ _ => 0#4
  | .arc _ _ _ _ => 0#4
  | .coa _ _ _ _ => 0#4
  | .shnop _ _ _ _ _ => 0#4
  | .boc _ _ _ _ => 8#4
  | .boa _ _ _ _ => 8#4
  | .bob _ _ _ _ => 8#4
  | .rsd _ _ _ _ => 8#4
  | .hpr _ _ _ _ => 8#4
  | .doa _ _ _ _ => 8#4
  | .voa _ _ _ _ => 8#4
  | .vob _ _ _ _ => 8#4
  | .voc _ _ _ _ => 8#4
  | .ora _ _ _ _ => 8#4
  | .ana _ _ _ _ => 8#4
  | .mim _ _ _ _ => 8#4
  | .com _ _ _ _ => 8#4
  | .dib _ _ _ _ => 8#4
  | .dia _ _ _ _ => 8#4
  | .hfc _ _ _ _ => 8#4
  | .efc _ _ _ _ => 8#4
  | .lpr _ _ _ _ => 8#4
  | .spnop _ _ _ _ _ => 8#4

/-- The whole field S of an instruction (R108, R110, R116). COA's sub-op 0x10 does not fit the field: only its low three
bits remain (log 8). -/
def Instr.sector : Instr → Sector
  | .scl _ _ _ sec => sec
  | .tmi2 _ _ _ sec => sec
  | .tze _ _ _ sec => sec
  | .op3 _ _ _ sec => sec
  | .smp _ _ _ sec => sec
  | .mpy _ _ _ sec => sec
  | .tmi _ _ _ sec => sec
  | .mpm _ _ _ sec => sec
  | .div _ _ _ sec => sec
  | .cla _ _ _ sec => sec
  | .tra _ _ _ sec => sec
  | .sto _ _ _ sec => sec
  | .sad _ _ _ sec => sec
  | .add _ _ _ sec => sec
  | .ssu _ _ _ sec => sec
  | .sub _ _ _ sec => sec
  | .sal _ _ _ n => shiftSector 8#4 n
  | .als _ _ _ n => shiftSector 9#4 n
  | .sll _ _ _ n => shiftSector 10#4 n
  | .srl _ _ _ n => shiftSector 11#4 n
  | .alc _ _ _ n => shiftSector 11#4 n
  | .sar _ _ _ n => shiftSector 12#4 n
  | .ars _ _ _ n => shiftSector 13#4 n
  | .slr _ _ _ n => shiftSector 14#4 n
  | .srr _ _ _ n => shiftSector 15#4 n
  | .arc _ _ _ n => shiftSector 15#4 n
  | .shnop _ _ _ subop cnt => subop ++ cnt
  | .coa _ _ _ n => shiftSector 0#4 n
  | .boc _ _ _ b => specialSector 0x01#6 b
  | .boa _ _ _ b => specialSector 0x04#6 b
  | .bob _ _ _ b => specialSector 0x05#6 b
  | .rsd _ _ _ b => specialSector 0x08#6 b
  | .hpr _ _ _ b => specialSector 0x09#6 b
  | .doa _ _ _ b => specialSector 0x0B#6 b
  | .voa _ _ _ b => specialSector 0x0C#6 b
  | .vob _ _ _ b => specialSector 0x0D#6 b
  | .voc _ _ _ b => specialSector 0x0E#6 b
  | .ora _ _ _ b => specialSector 0x10#6 b
  | .ana _ _ _ b => specialSector 0x11#6 b
  | .mim _ _ _ b => specialSector 0x12#6 b
  | .com _ _ _ b => specialSector 0x13#6 b
  | .dib _ _ _ b => specialSector 0x14#6 b
  | .dia _ _ _ b => specialSector 0x15#6 b
  | .hfc _ _ _ b => specialSector 0x18#6 b
  | .efc _ _ _ b => specialSector 0x19#6 b
  | .lpr _ _ _ p => lprSector p
  | .spnop _ _ _ subop b => specialSector subop b

/-- `w = (OP << 20) | (FLAG << 19) | (Sp << 15) | (C << 9) | (S << 2) | u` with the unused bits u = 0 (R101). -/
def encodeFields (op : Opcode) (h : Head) (sec : Sector) : Word :=
  op ++ BitVec.ofBool h.flag ++ h.sp ++ h.c ++ sec ++ 0#2

/-- Whether any word encodes the instruction: all but COA (R232, C3). -/
def Instr.encodable : Instr → Bool
  | .scl _ _ _ _ => true
  | .tmi2 _ _ _ _ => true
  | .tze _ _ _ _ => true
  | .op3 _ _ _ _ => true
  | .smp _ _ _ _ => true
  | .mpy _ _ _ _ => true
  | .tmi _ _ _ _ => true
  | .mpm _ _ _ _ => true
  | .div _ _ _ _ => true
  | .cla _ _ _ _ => true
  | .tra _ _ _ _ => true
  | .sto _ _ _ _ => true
  | .sad _ _ _ _ => true
  | .add _ _ _ _ => true
  | .ssu _ _ _ _ => true
  | .sub _ _ _ _ => true
  | .sal _ _ _ _ => true
  | .als _ _ _ _ => true
  | .sll _ _ _ _ => true
  | .srl _ _ _ _ => true
  | .alc _ _ _ _ => true
  | .sar _ _ _ _ => true
  | .ars _ _ _ _ => true
  | .slr _ _ _ _ => true
  | .srr _ _ _ _ => true
  | .arc _ _ _ _ => true
  | .coa _ _ _ _ => false
  | .boc _ _ _ _ => true
  | .boa _ _ _ _ => true
  | .bob _ _ _ _ => true
  | .rsd _ _ _ _ => true
  | .hpr _ _ _ _ => true
  | .doa _ _ _ _ => true
  | .voa _ _ _ _ => true
  | .vob _ _ _ _ => true
  | .voc _ _ _ _ => true
  | .ora _ _ _ _ => true
  | .ana _ _ _ _ => true
  | .mim _ _ _ _ => true
  | .com _ _ _ _ => true
  | .dib _ _ _ _ => true
  | .dia _ _ _ _ => true
  | .hfc _ _ _ _ => true
  | .efc _ _ _ _ => true
  | .lpr _ _ _ _ => true
  | .shnop _ _ _ _ _ => true
  | .spnop _ _ _ _ _ => true

/-- The encoder: the one word of a well-formed instruction (R116), none for COA. -/
def encode (i : Instr) : Option Word :=
  if i.encodable then some (encodeFields i.opcode i.head i.sector) else none

end Sys2Proof
end

