-- ==== Sys2Proof/Machine/State.lean ====
section
/-! DEFINITION. The state of the CORE (10_state.md section 2), the outcomes other than a next state, and the state after
init and reset (R360, R361, R363). -/

namespace Sys2Proof.Machine

/-- An event of the output trace (R50). -/
inductive Event
  /-- The telemetry pulse of flag code 2 (R201). -/
  | telemetry
  /-- A character, four bits, of COA (R232). -/
  | char (v : BitVec 4)
deriving DecidableEq, Repr

/-- Bulk memory: the words that are not 0, by linear index `ch * 128 + sec` (R38; log 1, log 2), in rising order. -/
abbrev Memory := List (Nat × Word)

/-- The canonical form of bulk memory: indices strictly rising, and no entry equal to the 0 an unlisted cell reads as. -/
abbrev Memory.wf (m : Memory) : Prop := m.Pairwise (fun x y => x.1 < y.1) ∧ ∀ x ∈ m, x.2 ≠ 0#24

/-- Every piece of state of 10_state.md section 2, the output trace (R50) and the two parameters of R8 that are not status
bits. Every 24-bit element is a `Word`, so the 24-bit closure of R51 holds by type. -/
structure State where
  /-- `A`, the primary accumulator (R31). -/
  regA : Word
  /-- `L`, the lower accumulator, also the loop on channel 0o64 (R32). -/
  regL : Word
  /-- `N`, the internal number register, which nothing reads or writes (R33; log 7). -/
  regN : Word
  /-- `I`, the location register (R34; log 20). -/
  regI : Word
  /-- `P`, the phase register (R35). -/
  regP : BitVec 3
  /-- Loop U, channel 0o60 (R36). -/
  loopU : Word
  /-- Loop F, channel 0o52 (R36). -/
  loopF : Vector Word 4
  /-- Loop E, channel 0o56 (R36). -/
  loopE : Vector Word 8
  /-- Loop H, channel 0o54 (R36). -/
  loopH : Vector Word 16
  /-- Loop V, channel 0o70 (R36). -/
  loopV : Vector Word 4
  /-- Loop R, channel 0o72 (R36). -/
  loopR : Vector Word 4
  /-- Bulk memory (R38). -/
  bulk : Memory
  /-- The run state: RUNNING is false, HALTED is true (R39, R250). -/
  halted : Bool
  /-- The sticky failure bit (R40, R332). -/
  error : Bool
  /-- `d37c_mode`: false is D17B mode, true is D37C mode (R41). -/
  d37cMode : Bool
  /-- Input latch `discrete_in_a` (R42). -/
  discreteInA : Word
  /-- Input latch `discrete_in_b` (R42). -/
  discreteInB : Word
  /-- Output latch `discrete_out_a` (R43). -/
  discreteOutA : Word
  /-- `voltage_out[0..3]`, signed 16 bits each (R44; log 17). -/
  voltageOut : Vector (BitVec 16) 4
  /-- `binary_out[0..3]`, 2 bits each (R45). -/
  binaryOut : Vector (BitVec 2) 4
  /-- The detector latch (R46). -/
  detector : Bool
  /-- `fine_countdown`, 24 bits unsigned (R47, D30). -/
  fineCountdown : BitVec 24
  /-- `countdown_enabled` (R47). -/
  countdownEnabled : Bool
  /-- `current_sector`, 0 to 127 (R48; log 18). -/
  currentSector : Fin 128
  /-- `cycle_count`, unbounded (R49, D31). -/
  cycleCount : Nat
  /-- The output trace, oldest event first: outside the CORE's state in the spec (R50), a field of the model (log 6). -/
  trace : List Event
  /-- The parameter `MEM_WORDS` (R8; log 4). -/
  memSize : MemSize
  /-- The parameter `FLAG_STORE_OPS` (R8, R200; log 5). -/
  flagStoreOps : List Opcode
deriving DecidableEq, Repr

/-- No fault exists: "The core never throws to its caller" (R330), so this type has no constructor (log 10). -/
inductive Fault
deriving DecidableEq, Repr

/-- Why the model would answer without a next state. No meaning of this model does. -/
inductive Refusal
  /-- An instruction without a meaning; raised by no arm of `exec` (every instruction has its meaning). Safe. -/
  | notModelled (mnemonic : String)
deriving DecidableEq, Repr

/-- What one step answers. -/
abbrev Result := Host.Outcome State Fault Refusal

/-- `init(D37C_MODE, MEM_WORDS)` with the set `FLAG_STORE_OPS` (R360): bulk memory zero, every register, loop, latch and
counter as reset leaves it (R361, R363), and an empty output trace (log 6). -/
def State.init (mode : Bool) (size : MemSize) (ops : List Opcode) : State where
  regA := 0
  regL := 0
  regN := 0
  regI := 0
  regP := 0
  loopU := 0
  loopF := Vector.replicate 4 0
  loopE := Vector.replicate 8 0
  loopH := Vector.replicate 16 0
  loopV := Vector.replicate 4 0
  loopR := Vector.replicate 4 0
  bulk := []
  halted := false
  error := false
  d37cMode := mode
  discreteInA := 0
  discreteInB := 0
  discreteOutA := 0
  voltageOut := Vector.replicate 4 0
  binaryOut := Vector.replicate 4 0
  detector := false
  fineCountdown := 0
  countdownEnabled := false
  currentSector := 0
  cycleCount := 0
  trace := []
  memSize := size
  flagStoreOps := ops

/-- The machine right after init and reset, with the parameters of Config (log 3, log 4, log 5). -/
def State.reset : State := State.init Config.d37cMode Config.memSize Config.flagStoreOps

end Sys2Proof.Machine
end

