-- ==== Sys2Proof/Machine/Ops.lean ====
section
/-! DEFINITION. The named operations over memory, registers, latches and the trace: the disc/loop channel mux of
20_memory.md, and the one write of each state element. The CORE takes no exception (R330, R336), so what other machines
have here, exception entry and return, does not exist; the failure signal is `State.signalError`. -/

namespace Sys2Proof.Machine

/-- The word at a linear index: 0 where nothing is listed (R360, R363; log 2). -/
def Memory.read : Memory → Nat → Word
  | [], _ => 0#24
  | (b, v) :: rest, a => if a = b then v else Memory.read rest a

/-- Take a cell out of the list. -/
def Memory.erase (m : Memory) (a : Nat) : Memory := m.filter (fun x => decide (x.1 ≠ a))

/-- Put a cell before the first cell of a higher index. -/
def Memory.insert : Memory → Nat → Word → Memory
  | [], a, w => [(a, w)]
  | (b, v) :: rest, a, w => if a < b then (a, w) :: (b, v) :: rest else (b, v) :: Memory.insert rest a w

/-- Write a word at a linear index, keeping the canonical form: writing 0 removes the cell from the list. -/
def Memory.write (m : Memory) (a : Nat) (w : Word) : Memory :=
  if w = 0#24 then m.erase a else (m.erase a).insert a w

/-- The storage word that an address names. -/
inductive Place
  | loopF (k : Fin 4)
  | loopH (k : Fin 16)
  | loopE (k : Fin 8)
  | loopU
  | regL
  | loopV (k : Fin 4)
  | loopR (k : Fin 4)
  /-- A populated bulk cell, by its linear index. -/
  | bulk (index : Nat)
  /-- No storage: reads 0, writes are ignored (R74, R75). -/
  | nothing
deriving DecidableEq, Repr

/-- `is_loop(ch)` (R72). -/
def isLoop (ch : Nat) : Bool := [0o52, 0o54, 0o56, 0o60, 0o64, 0o70, 0o72].contains ch

/-- `populated(ch, sec)` (R38). -/
def populated (size : MemSize) (ch sec : Nat) : Bool :=
  decide (ch < Config.bulkChannels) && decide (sec < 128) && !isLoop ch && decide (ch * 128 + sec < size.words)

/-- The channel mux: which storage word (channel, sector) names; the loop test comes first (R72 to R75). The arguments are
natural numbers, as the host's may be (R78, D43). -/
def place (size : MemSize) (ch sec : Nat) : Place :=
  if ch = 0o52 then .loopF (Fin.ofNat 4 sec)
  else if ch = 0o54 then .loopH (Fin.ofNat 16 sec)
  else if ch = 0o56 then .loopE (Fin.ofNat 8 sec)
  else if ch = 0o60 then .loopU
  else if ch = 0o64 then .regL
  else if ch = 0o70 then .loopV (Fin.ofNat 4 sec)
  else if ch = 0o72 then .loopR (Fin.ofNat 4 sec)
  else if populated size ch sec then .bulk (ch * 128 + sec)
  else .nothing

/-- Read a storage word. -/
def State.readPlace (s : State) : Place → Word
  | .loopF k => s.loopF[k]
  | .loopH k => s.loopH[k]
  | .loopE k => s.loopE[k]
  | .loopU => s.loopU
  | .regL => s.regL
  | .loopV k => s.loopV[k]
  | .loopR k => s.loopR[k]
  | .bulk a => s.bulk.read a
  | .nothing => 0#24

/-- Write a storage word. -/
def State.writePlace (s : State) (w : Word) : Place → State
  | .loopF k => { s with loopF := s.loopF.set k w }
  | .loopH k => { s with loopH := s.loopH.set k w }
  | .loopE k => { s with loopE := s.loopE.set k w }
  | .loopU => { s with loopU := w }
  | .regL => { s with regL := w }
  | .loopV k => { s with loopV := s.loopV.set k w }
  | .loopR k => { s with loopR := s.loopR.set k w }
  | .bulk a => { s with bulk := s.bulk.write a w }
  | .nothing => s

/-- `MemRead(ch, sec)` (R74). -/
def State.memRead (s : State) (ch sec : Nat) : Word := s.readPlace (place s.memSize ch sec)

/-- `MemWrite(ch, sec, v)` of a value already masked to 24 bits (R75). -/
def State.memWrite (s : State) (ch sec : Nat) (w : Word) : State := s.writePlace w (place s.memSize ch sec)

/-- `A <- v` (R31). -/
def State.setA (s : State) (w : Word) : State := { s with regA := w }

/-- `L <- v` (R32). -/
def State.setL (s : State) (w : Word) : State := { s with regL := w }

/-- `I <- loc(ch, sec)` (R34). -/
def State.setI (s : State) (w : Word) : State := { s with regI := w }

/-- `P <- v` (R35). -/
def State.setP (s : State) (v : BitVec 3) : State := { s with regP := v }

/-- `halted <- 1` (R39). -/
def State.halt (s : State) : State := { s with halted := true }

/-- `error <- 1`, the only failure signal (R40, R330): sticky, and the step goes on (R331). -/
def State.signalError (s : State) : State := { s with error := true }

/-- `discrete_out_a <- v` (R43). -/
def State.setDiscreteOutA (s : State) (w : Word) : State := { s with discreteOutA := w }

/-- `voltage_out[k] <- v` (R44). -/
def State.setVoltage (s : State) (k : Fin 4) (v : BitVec 16) : State := { s with voltageOut := s.voltageOut.set k v }

/-- `binary_out[k] <- v` (R45). -/
def State.setBinary (s : State) (k : Fin 4) (v : BitVec 2) : State := { s with binaryOut := s.binaryOut.set k v }

/-- `detector <- v` (R46). -/
def State.setDetector (s : State) (v : Bool) : State := { s with detector := v }

/-- `countdown_enabled <- v` (R47). -/
def State.setCountdownEnabled (s : State) (v : Bool) : State := { s with countdownEnabled := v }

/-- `emit(e)`: append an event to the output trace (R50). -/
def State.emit (s : State) (e : Event) : State := { s with trace := s.trace ++ [e] }

end Sys2Proof.Machine
end

