-- ==== Sys2Proof/Machine/Operands.lean ====
section
/-! DEFINITION. The operand forms: direct addressing is the only one (R104), and the accumulator pair takes the results
of the multiplier and divider. -/

namespace Sys2Proof.Machine

/-- The operand `M = MemRead(C, S)`, read before anything is written (R151, R85). -/
def State.operand (s : State) (c : Channel) (sec : Sector) : Word := s.memRead c.toNat sec.toNat

/-- `MemWrite(C, S, v)` (R263). -/
def State.storeOperand (s : State) (c : Channel) (sec : Sector) (w : Word) : State := s.memWrite c.toNat sec.toNat w

/-- Write the accumulator pair, and `error` where the unit signals it (R180, R186). -/
def State.setPair (s : State) (r : PairResult) : State :=
  let t := (s.setA r.a).setL r.l
  if r.error then t.signalError else t

/-- The branch condition "A[23] = 1" of TMI and TMI2 (R261, R262). -/
def State.accNegative (s : State) : Bool := sign s.regA

/-- The branch condition "mag(A) = 0" of TZE, regardless of the sign (R262, R30). -/
def State.accZero (s : State) : Bool := decide (mag s.regA = 0)

end Sys2Proof.Machine
end

