-- ==== Sys2Proof/Machine/Flags.lean ====
section
/-! DEFINITION. The flag-store unit (42_flag_store.md). The CORE has no condition codes (R58): the FLAG bit of an
instruction enables this unit and nothing else. -/

namespace Sys2Proof.Machine

/-- What a flag code selects. -/
inductive FlagDest
  /-- Code 0: nothing. -/
  | none
  /-- Code 2: the telemetry pulse. -/
  | telemetry
  /-- The other codes: the word at (channel, sector). -/
  | store (ch sec : Nat)
deriving DecidableEq, Repr

/-- The flag-store table of R201, by `k = S[2:0]`: F, telemetry, channel 0o50, E, L, H, U. A loop word is named by its
channel; the channel of L and of U takes any sector, so 0. -/
def flagDest (sec : Sector) : FlagDest :=
  match lowBits sec with
  | 0#3 => .none
  | 1#3 => .store 0o52 (sec.toNat % 4)
  | 2#3 => .telemetry
  | 3#3 => .store 0o50 (sec - 2#7).toNat
  | 4#3 => .store 0o56 (sec.toNat % 8)
  | 5#3 => .store 0o64 0
  | 6#3 => .store 0o54 (sec.toNat % 16)
  | _ => .store 0o60 0

/-- `flag_store(S, A)` with the A the main effect left (R201, R202). -/
def State.flagStore (s : State) (sec : Sector) : State :=
  match flagDest sec with
  | .none => s
  | .telemetry => s.emit .telemetry
  | .store ch se => s.memWrite ch se s.regA

/-- Whether the flag store runs: FLAG = 1 and OP in `FLAG_STORE_OPS` (R200). -/
def State.flagStoreRuns (s : State) (op : Opcode) (flag : Bool) : Bool := flag && s.flagStoreOps.contains op

/-- The flag-store line of the step (R252). -/
def State.flagStoreIf (s : State) (op : Opcode) (flag : Bool) (sec : Sector) : State :=
  if s.flagStoreRuns op flag then s.flagStore sec else s

end Sys2Proof.Machine
end

