-- ==== Sys2Proof/Machine/Sequencer.lean ====
section
/-! DEFINITION. The end of every step: the flag store, the next I, the word-time counters and the fine countdown, in the
order of R252. -/

namespace Sys2Proof.Machine

/-- The next-sector rule: `loc(ch0, Sp)`, the sector's bits 6..4 zero (R255, D8). -/
def State.nextLocation (s : State) (sp : NextSector) : Word := loc (chan s.regI) (0#3 ++ sp)

/-- The word-time counters advance, and the fine countdown falls while it is enabled and not 0 (R256, R257). -/
def State.tick (s : State) : State :=
  { s with
    currentSector := s.currentSector + 1
    cycleCount := s.cycleCount + 1
    fineCountdown := if s.countdownEnabled && decide (s.fineCountdown ≠ 0#24) then s.fineCountdown - 1#24
      else s.fineCountdown }

/-- What follows the main effect of an instruction with opcode `op`, FLAG `flag` and sector field `sec`, control going to
`dest` (R252). -/
def State.finishAt (s : State) (op : Opcode) (flag : Bool) (sec : Sector) (dest : Word) : State :=
  ((s.flagStoreIf op flag sec).setI dest).tick

/-- What follows the main effect of an instruction that does not branch (R252, R255). -/
def State.finish (s : State) (op : Opcode) (flag : Bool) (sec : Sector) (sp : NextSector) : State :=
  s.finishAt op flag sec (s.nextLocation sp)

/-- A control transfer to (C, S): taken if `cond`, else the next-sector rule (R252, R260 to R262). -/
def State.branch (s : State) (op : Opcode) (cond flag : Bool) (sp : NextSector) (c : Channel) (sec : Sector) : State :=
  s.finishAt op flag sec (if cond then loc c sec else s.nextLocation sp)

end Sys2Proof.Machine
end

