-- ==== Sys2Proof/Machine/Arithmetic.lean ====
section
/-! DEFINITION. The arithmetic instructions CLA, ADD, SUB, SAD, SSU and SCL (40_arithmetic.md, order of R150). -/

namespace Sys2Proof.Machine

/-- What an instruction that loads A from a function of A and its operand does (R150, R151). -/
def State.accumulate (s : State) (f : Word → Word → Word) (op : Opcode) (flag : Bool) (sp : NextSector) (c : Channel)
    (sec : Sector) : State :=
  (s.setA (f s.regA (s.operand c sec))).finish op flag sec sp

/-- CLA: `A <- M`, bit for bit (R152, D17). -/
def execCla (flag : Bool) (sp : NextSector) (c : Channel) (sec : Sector) (s : State) : Result :=
  .next (s.accumulate (fun _ m => m) 9#4 flag sp c sec)

/-- ADD: `A <- add(A, M)` (R153). -/
def execAdd (flag : Bool) (sp : NextSector) (c : Channel) (sec : Sector) (s : State) : Result :=
  .next (s.accumulate smAdd 13#4 flag sp c sec)

/-- SUB: `A <- sub(A, M)` (R154). -/
def execSub (flag : Bool) (sp : NextSector) (c : Channel) (sec : Sector) (s : State) : Result :=
  .next (s.accumulate smSub 15#4 flag sp c sec)

/-- SAD: split add (R155). -/
def execSad (flag : Bool) (sp : NextSector) (c : Channel) (sec : Sector) (s : State) : Result :=
  .next (s.accumulate (zipLanes laneAdd) 12#4 flag sp c sec)

/-- SSU: split subtract (R156). -/
def execSsu (flag : Bool) (sp : NextSector) (c : Channel) (sec : Sector) (s : State) : Result :=
  .next (s.accumulate (zipLanes laneSub) 14#4 flag sp c sec)

/-- SCL: split compare and limit (R157); the default `FLAG_STORE_OPS` leaves it out (D13). -/
def execScl (flag : Bool) (sp : NextSector) (c : Channel) (sec : Sector) (s : State) : Result :=
  .next (s.accumulate (zipLanes clamp12) 1#4 flag sp c sec)

end Sys2Proof.Machine
end

