-- ==== Sys2Proof/Machine/Control.lean ====
section
/-! DEFINITION. Control transfer TRA, TMI, TMI2, TZE, the store STO, and the unassigned opcode 3 (44_sequencer_control.md). -/

namespace Sys2Proof.Machine

/-- TRA: unconditional jump; Sp is not used (R260). -/
def execTra (flag : Bool) (sp : NextSector) (c : Channel) (sec : Sector) (s : State) : Result :=
  .next (s.branch 10#4 true flag sp c sec)

/-- TMI: jump if the sign bit of A is set (R261). -/
def execTmi (flag : Bool) (sp : NextSector) (c : Channel) (sec : Sector) (s : State) : Result :=
  .next (s.branch 6#4 s.accNegative flag sp c sec)

/-- Opcode 2 in D17B mode: jump if the sign bit of A is set (R262; log 16). -/
def execTmi2 (flag : Bool) (sp : NextSector) (c : Channel) (sec : Sector) (s : State) : Result :=
  .next (s.branch 2#4 s.accNegative flag sp c sec)

/-- Opcode 2 in D37C mode: jump if the magnitude of A is 0 (R262; log 16). -/
def execTze (flag : Bool) (sp : NextSector) (c : Channel) (sec : Sector) (s : State) : Result :=
  .next (s.branch 2#4 s.accZero flag sp c sec)

/-- STO: `MemWrite(C, S, A)` (R263). -/
def execSto (flag : Bool) (sp : NextSector) (c : Channel) (sec : Sector) (s : State) : Result :=
  .next ((s.storeOperand c sec s.regA).finish 11#4 flag sec sp)

/-- OP3: the unassigned opcode is a no-op (R264). -/
def execOp3 (flag : Bool) (sp : NextSector) (sec : Sector) (s : State) : Result :=
  .next (s.finish 3#4 flag sec sp)

end Sys2Proof.Machine
end

