-- ==== Sys2Proof/Machine/MulDiv.lean ====
section
/-! DEFINITION. The multiplier and divider instructions SMP, MPY, MPM and DIV (41_multiply_divide.md, order of R150). -/

namespace Sys2Proof.Machine

/-- What an instruction that writes the pair A:L does (R150, R180, R186). -/
def State.pairUp (s : State) (r : PairResult) (op : Opcode) (flag : Bool) (sp : NextSector) (sec : Sector) : State :=
  (s.setPair r).finish op flag sec sp

/-- MPY: multiply (R182). -/
def execMpy (flag : Bool) (sp : NextSector) (c : Channel) (sec : Sector) (s : State) : Result :=
  .next (s.pairUp (mulWords s.regA (s.operand c sec)) 5#4 flag sp sec)

/-- SMP: split multiply (R184). -/
def execSmp (flag : Bool) (sp : NextSector) (c : Channel) (sec : Sector) (s : State) : Result :=
  .next (s.pairUp (mulReduced s.regA (s.operand c sec)) 4#4 flag sp sec)

/-- MPM: multiply of magnitudes, which the decoder names in D17B mode only (R185, R107; log 16). -/
def execMpm (flag : Bool) (sp : NextSector) (c : Channel) (sec : Sector) (s : State) : Result :=
  .next (s.pairUp (mulMagnitudes s.regA (s.operand c sec)) 7#4 flag sp sec)

/-- DIV: divide A:L, which the decoder names in D37C mode only (R186, R107; log 16). An error does not trap (R331). -/
def execDiv (flag : Bool) (sp : NextSector) (c : Channel) (sec : Sector) (s : State) : Result :=
  .next (s.pairUp (divWords s.regA s.regL (s.operand c sec)) 7#4 flag sp sec)

end Sys2Proof.Machine
end

