-- ==== Sys2Proof/Machine/Shift.lean ====
section
/-! DEFINITION. The shift and rotate family, OP = 0 (43_shift.md). C is ignored (R108). -/

namespace Sys2Proof.Machine

/-- What a shift does: A takes the shifted word; S is `sub` and the count (R220). -/
def State.shiftTo (s : State) (w : Word) (sub : BitVec 4) (flag : Bool) (sp : NextSector) (n : Nat) : State :=
  (s.setA w).finish 0#4 flag (shiftSector sub n) sp

/-- SAL: split left shift (R222). -/
def execSal (flag : Bool) (sp : NextSector) (n : Nat) (s : State) : Result :=
  .next (s.shiftTo (mapLanes (laneShl n) s.regA) 8#4 flag sp n)

/-- ALS: full left shift (R223). -/
def execAls (flag : Bool) (sp : NextSector) (n : Nat) (s : State) : Result :=
  .next (s.shiftTo (s.regA <<< n) 9#4 flag sp n)

/-- SLL: left shift of the high lane (R224). -/
def execSll (flag : Bool) (sp : NextSector) (n : Nat) (s : State) : Result :=
  .next (s.shiftTo (pack (laneShl n (hi s.regA)) (lo s.regA)) 10#4 flag sp n)

/-- SRL: left shift of the low lane, D17B mode (R225; log 16). -/
def execSrl (flag : Bool) (sp : NextSector) (n : Nat) (s : State) : Result :=
  .next (s.shiftTo (pack (hi s.regA) (laneShl n (lo s.regA))) 11#4 flag sp n)

/-- ALC: rotate left 24 bits, D37C mode (R226; log 16). -/
def execAlc (flag : Bool) (sp : NextSector) (n : Nat) (s : State) : Result :=
  .next (s.shiftTo (rotl24 s.regA n) 11#4 flag sp n)

/-- SAR: split right shift (R227). -/
def execSar (flag : Bool) (sp : NextSector) (n : Nat) (s : State) : Result :=
  .next (s.shiftTo (mapLanes (laneShr n) s.regA) 12#4 flag sp n)

/-- ARS: full right shift, logical (R228). -/
def execArs (flag : Bool) (sp : NextSector) (n : Nat) (s : State) : Result :=
  .next (s.shiftTo (s.regA >>> n) 13#4 flag sp n)

/-- SLR: right shift of the high lane (R229). -/
def execSlr (flag : Bool) (sp : NextSector) (n : Nat) (s : State) : Result :=
  .next (s.shiftTo (pack (laneShr n (hi s.regA)) (lo s.regA)) 14#4 flag sp n)

/-- SRR: right shift of the low lane, D17B mode (R230; log 16). -/
def execSrr (flag : Bool) (sp : NextSector) (n : Nat) (s : State) : Result :=
  .next (s.shiftTo (pack (hi s.regA) (laneShr n (lo s.regA))) 15#4 flag sp n)

/-- ARC: rotate right 24 bits, D37C mode (R231; log 16). -/
def execArc (flag : Bool) (sp : NextSector) (n : Nat) (s : State) : Result :=
  .next (s.shiftTo (rotr24 s.regA n) 15#4 flag sp n)

/-- SHNOP: a shift sub-op below 8 is a no-op (R233). -/
def execShnop (flag : Bool) (sp : NextSector) (sub : BitVec 4) (cnt : BitVec 3) (s : State) : Result :=
  .next (s.finish 0#4 flag (sub ++ cnt) sp)

/-- COA: `emit(Char(A & 0xF))`, A unchanged (R232). No word decodes to it; its low S bits are the count (log 8). -/
def execCoa (flag : Bool) (sp : NextSector) (n : Nat) (s : State) : Result :=
  .next ((s.emit (.char (s.regA.extractLsb' 0 4))).finish 0#4 flag (shiftSector 0#4 n) sp)

end Sys2Proof.Machine
end

