-- ==== Sys2Proof/Machine/Special.lean ====
section
/-! DEFINITION. The special and I/O family, OP = 8 (45_special_io.md). C is ignored, and S[0] by all but LPR (R290). -/

namespace Sys2Proof.Machine

/-- What follows the main effect of the special sub-op `sub`, whose S[0] is `b` (R290). -/
def State.special (s : State) (sub : BitVec 6) (flag : Bool) (sp : NextSector) (b : Bool) : State :=
  s.finish 8#4 flag (specialSector sub b) sp

/-- HPR: `halted <- 1`; the step completes (R300, D27). -/
def execHpr (flag : Bool) (sp : NextSector) (b : Bool) (s : State) : Result :=
  .next ((s.halt).special 0x09#6 flag sp b)

/-- RSD: `detector <- false` (R301). -/
def execRsd (flag : Bool) (sp : NextSector) (b : Bool) (s : State) : Result :=
  .next ((s.setDetector false).special 0x08#6 flag sp b)

/-- EFC: `countdown_enabled <- 1`, seen by the countdown of its own step (R302, R257). -/
def execEfc (flag : Bool) (sp : NextSector) (b : Bool) (s : State) : Result :=
  .next ((s.setCountdownEnabled true).special 0x19#6 flag sp b)

/-- HFC: `countdown_enabled <- 0`, seen by the countdown of its own step (R302, R257). -/
def execHfc (flag : Bool) (sp : NextSector) (b : Bool) (s : State) : Result :=
  .next ((s.setCountdownEnabled false).special 0x18#6 flag sp b)

/-- ANA: `A <- A & L` (R303). -/
def execAna (flag : Bool) (sp : NextSector) (b : Bool) (s : State) : Result :=
  .next ((s.setA (s.regA &&& s.regL)).special 0x11#6 flag sp b)

/-- ORA: `A <- A | L` in D37C mode, no effect in D17B mode (R304; log 15). -/
def execOra (flag : Bool) (sp : NextSector) (b : Bool) (s : State) : Result :=
  .next ((if s.d37cMode then s.setA (s.regA ||| s.regL) else s).special 0x10#6 flag sp b)

/-- MIM: set the sign bit of A (R305). -/
def execMim (flag : Bool) (sp : NextSector) (b : Bool) (s : State) : Result :=
  .next ((s.setA (minusMagnitude s.regA)).special 0x12#6 flag sp b)

/-- COM: toggle the sign bit of A (R306). -/
def execCom (flag : Bool) (sp : NextSector) (b : Bool) (s : State) : Result :=
  .next ((s.setA (complement s.regA)).special 0x13#6 flag sp b)

/-- DIA: `A <- discrete_in_a` (R307). -/
def execDia (flag : Bool) (sp : NextSector) (b : Bool) (s : State) : Result :=
  .next ((s.setA s.discreteInA).special 0x15#6 flag sp b)

/-- DIB: `A <- discrete_in_b` (R307). -/
def execDib (flag : Bool) (sp : NextSector) (b : Bool) (s : State) : Result :=
  .next ((s.setA s.discreteInB).special 0x14#6 flag sp b)

/-- DOA: `discrete_out_a <- A` (R308). -/
def execDoa (flag : Bool) (sp : NextSector) (b : Bool) (s : State) : Result :=
  .next ((s.setDiscreteOutA s.regA).special 0x0B#6 flag sp b)

/-- VOA: `voltage_out[0] <- to_signed(A >> 15)` (R309, D24). -/
def execVoa (flag : Bool) (sp : NextSector) (b : Bool) (s : State) : Result :=
  .next ((s.setVoltage 0 (voltageOf s.regA)).special 0x0C#6 flag sp b)

/-- VOB: `voltage_out[1] <- to_signed(A >> 15)` (R309, D24). -/
def execVob (flag : Bool) (sp : NextSector) (b : Bool) (s : State) : Result :=
  .next ((s.setVoltage 1 (voltageOf s.regA)).special 0x0D#6 flag sp b)

/-- VOC: `voltage_out[2] <- to_signed(A >> 15)` (R309, D24). -/
def execVoc (flag : Bool) (sp : NextSector) (b : Bool) (s : State) : Result :=
  .next ((s.setVoltage 2 (voltageOf s.regA)).special 0x0E#6 flag sp b)

/-- BOA: `binary_out[0] <- A[23:22]` (R310, D24). -/
def execBoa (flag : Bool) (sp : NextSector) (b : Bool) (s : State) : Result :=
  .next ((s.setBinary 0 (topBits s.regA)).special 0x04#6 flag sp b)

/-- BOB: `binary_out[1] <- A[23:22]` (R310, D24). -/
def execBob (flag : Bool) (sp : NextSector) (b : Bool) (s : State) : Result :=
  .next ((s.setBinary 1 (topBits s.regA)).special 0x05#6 flag sp b)

/-- BOC: `binary_out[2] <- A[23:22]` (R310, D24). -/
def execBoc (flag : Bool) (sp : NextSector) (b : Bool) (s : State) : Result :=
  .next ((s.setBinary 2 (topBits s.regA)).special 0x01#6 flag sp b)

/-- LPR: `P <- S[2:0]` (R311). -/
def execLpr (flag : Bool) (sp : NextSector) (p : BitVec 3) (s : State) : Result :=
  .next ((s.setP p).finish 8#4 flag (lprSector p) sp)

/-- SPNOP: an unlisted special sub-op is a no-op (R312, D23). -/
def execSpnop (flag : Bool) (sp : NextSector) (sub : BitVec 6) (b : Bool) (s : State) : Result :=
  .next (s.special sub flag sp b)

end Sys2Proof.Machine
end

