-- ==== Sys2Proof/Machine/Dispatch.lean ====
section
/-! DEFINITION. The dispatcher: one meaning for each instruction (R254). The whole step after decoding is here (R252);
`step` adds the test of `halted`, the fetch and the decoding. -/

namespace Sys2Proof.Machine

def exec (i : Instr) (s : State) : Host.Outcome State Fault Refusal :=
  match i with
  | .scl flag sp c sec => Sys2Proof.Machine.execScl flag sp c sec s
  | .tmi2 flag sp c sec => Sys2Proof.Machine.execTmi2 flag sp c sec s
  | .tze flag sp c sec => Sys2Proof.Machine.execTze flag sp c sec s
  | .op3 flag sp _ sec => Sys2Proof.Machine.execOp3 flag sp sec s
  | .smp flag sp c sec => Sys2Proof.Machine.execSmp flag sp c sec s
  | .mpy flag sp c sec => Sys2Proof.Machine.execMpy flag sp c sec s
  | .tmi flag sp c sec => Sys2Proof.Machine.execTmi flag sp c sec s
  | .mpm flag sp c sec => Sys2Proof.Machine.execMpm flag sp c sec s
  | .div flag sp c sec => Sys2Proof.Machine.execDiv flag sp c sec s
  | .cla flag sp c sec => Sys2Proof.Machine.execCla flag sp c sec s
  | .tra flag sp c sec => Sys2Proof.Machine.execTra flag sp c sec s
  | .sto flag sp c sec => Sys2Proof.Machine.execSto flag sp c sec s
  | .sad flag sp c sec => Sys2Proof.Machine.execSad flag sp c sec s
  | .add flag sp c sec => Sys2Proof.Machine.execAdd flag sp c sec s
  | .ssu flag sp c sec => Sys2Proof.Machine.execSsu flag sp c sec s
  | .sub flag sp c sec => Sys2Proof.Machine.execSub flag sp c sec s
  | .sal flag sp _ n => Sys2Proof.Machine.execSal flag sp n s
  | .als flag sp _ n => Sys2Proof.Machine.execAls flag sp n s
  | .sll flag sp _ n => Sys2Proof.Machine.execSll flag sp n s
  | .srl flag sp _ n => Sys2Proof.Machine.execSrl flag sp n s
  | .alc flag sp _ n => Sys2Proof.Machine.execAlc flag sp n s
  | .sar flag sp _ n => Sys2Proof.Machine.execSar flag sp n s
  | .ars flag sp _ n => Sys2Proof.Machine.execArs flag sp n s
  | .slr flag sp _ n => Sys2Proof.Machine.execSlr flag sp n s
  | .srr flag sp _ n => Sys2Proof.Machine.execSrr flag sp n s
  | .arc flag sp _ n => Sys2Proof.Machine.execArc flag sp n s
  | .shnop flag sp _ subop cnt => Sys2Proof.Machine.execShnop flag sp subop cnt s
  | .coa flag sp _ n => Sys2Proof.Machine.execCoa flag sp n s
  | .boc flag sp _ b => Sys2Proof.Machine.execBoc flag sp b s
  | .boa flag sp _ b => Sys2Proof.Machine.execBoa flag sp b s
  | .bob flag sp _ b => Sys2Proof.Machine.execBob flag sp b s
  | .rsd flag sp _ b => Sys2Proof.Machine.execRsd flag sp b s
  | .hpr flag sp _ b => Sys2Proof.Machine.execHpr flag sp b s
  | .doa flag sp _ b => Sys2Proof.Machine.execDoa flag sp b s
  | .voa flag sp _ b => Sys2Proof.Machine.execVoa flag sp b s
  | .vob flag sp _ b => Sys2Proof.Machine.execVob flag sp b s
  | .voc flag sp _ b => Sys2Proof.Machine.execVoc flag sp b s
  | .ora flag sp _ b => Sys2Proof.Machine.execOra flag sp b s
  | .ana flag sp _ b => Sys2Proof.Machine.execAna flag sp b s
  | .mim flag sp _ b => Sys2Proof.Machine.execMim flag sp b s
  | .com flag sp _ b => Sys2Proof.Machine.execCom flag sp b s
  | .dib flag sp _ b => Sys2Proof.Machine.execDib flag sp b s
  | .dia flag sp _ b => Sys2Proof.Machine.execDia flag sp b s
  | .hfc flag sp _ b => Sys2Proof.Machine.execHfc flag sp b s
  | .efc flag sp _ b => Sys2Proof.Machine.execEfc flag sp b s
  | .lpr flag sp _ p => Sys2Proof.Machine.execLpr flag sp p s
  | .spnop flag sp _ subop b => Sys2Proof.Machine.execSpnop flag sp subop b s

end Sys2Proof.Machine
end

