-- ==== Sys2Proof/Machine/Fetch.lean ====
section
/-! DEFINITION. Fetching an instruction word, and placing one where the next step fetches it. -/

namespace Sys2Proof.Machine

/-- The instruction word `MemRead(chan(I), sect(I))` (R253). -/
def State.fetch (s : State) : Word := s.memRead (chan s.regI).toNat (sect s.regI).toNat

/-- Whether I names a storage word, so that a word written there is fetched again. -/
def State.fetchable (s : State) : Bool :=
  decide (place s.memSize (chan s.regI).toNat (sect s.regI).toNat ≠ .nothing)

/-- The host's load of one instruction word where the next step fetches (R55; log 13): RUNNING, and I at loc(0, 0) if it
names no storage. -/
def State.placeFetchWord (s : State) (w : Word) : State :=
  let t : State := { s with halted := false, regI := if s.fetchable then s.regI else loc 0#6 0#7 }
  t.memWrite (chan t.regI).toNat (sect t.regI).toNat w

end Sys2Proof.Machine
end

