-- ==== Sys2Proof/Machine/Step.lean ====
section
/-! DEFINITION. One step of the CORE (R251, R252). -/

namespace Sys2Proof.Machine

/-- `step` (R252): in HALTED nothing changes (R251; log 9); in RUNNING the word at I is fetched, decoded in the machine's
mode, and run. -/
def step (s : State) : Host.Outcome State Fault Refusal :=
  if s.halted then .next s else exec (decode s.d37cMode s.fetch) s

/-- `s` with the instruction word `w` stored where `step` fetches next (log 13). -/
def State.withFetchWord (s : State) (_nbits w : Nat) : State := s.placeFetchWord (BitVec.ofNat 24 w)

end Sys2Proof.Machine
end

