-- ==== Sys2Proof/Machine/Disasm.lean ====
section
/-! DEFINITION. Single-word disassembly (R105, R120). -/

namespace Sys2Proof.Machine

/-- The source's mnemonic table, by primary opcode (R105). -/
def familyName (op : Opcode) : String :=
  match op with
  | 0#4 => "SHIFT"
  | 1#4 => "SCL"
  | 2#4 => "TMI/TZE"
  | 3#4 => "?"
  | 4#4 => "SMP"
  | 5#4 => "MPY"
  | 6#4 => "TMI"
  | 7#4 => "MPM/DIV"
  | 8#4 => "SPEC"
  | 9#4 => "CLA"
  | 10#4 => "TRA"
  | 11#4 => "STO"
  | 12#4 => "SAD"
  | 13#4 => "ADD"
  | 14#4 => "SSU"
  | _ => "SUB"

/-- `k` octal digits of `n`, zero-padded (R10, R120). -/
def octalDigits : Nat → Nat → List Char
  | 0, _ => []
  | k + 1, n => octalDigits k (n / 8) ++ [Char.ofNat (48 + n % 8)]

/-- `NAME[*] CC,SSS` (R120). -/
def disassemble (w : Word) : String :=
  familyName (opField w) ++ (if flagField w then "*" else "") ++ " " ++ String.ofList (octalDigits 2 (chan w).toNat) ++ ","
    ++ String.ofList (octalDigits 3 (sect w).toNat)

end Sys2Proof.Machine
end

