-- ==== Sys2Proof/Machine/HostSurface.lean ====
section
/-! DEFINITION. The operations the CORE exports to its host (R54), which act between steps (R52; log 11). The snapshot of
R57 is the state itself. -/

namespace Sys2Proof.Machine

/-- `reset` (R361): everything 0, but `d37c_mode`, the parameters, bulk memory and the output trace stay. -/
def State.resetOp (s : State) : State :=
  { State.init s.d37cMode s.memSize s.flagStoreOps with bulk := s.bulk, trace := s.trace }

/-- `mask24(v)` (R12). -/
def mask24 (v : Nat) : Word := BitVec.ofNat 24 v

/-- The host's `read(ch, sec)` (R74, R78). -/
def State.hostRead (s : State) (ch sec : Nat) : Word := s.memRead ch sec

/-- The host's `write(ch, sec, w)` (R75, R78). -/
def State.hostWrite (s : State) (ch sec v : Nat) : State := s.memWrite ch sec (mask24 v)

/-- The seven loops, for the register surface (R36, R56). -/
inductive LoopName
  | f | h | e | u | l | v | r
deriving DecidableEq, Repr

/-- The channel of a loop (R72). -/
def LoopName.channel : LoopName → Nat
  | .f => 0o52
  | .h => 0o54
  | .e => 0o56
  | .u => 0o60
  | .l => 0o64
  | .v => 0o70
  | .r => 0o72

/-- The writes the host may make between steps (R55, R56), each value masked to its width. -/
inductive HostAction
  | write (ch sec v : Nat)
  | setDiscreteInA (v : Nat)
  | setDiscreteInB (v : Nat)
  | setDetector (v : Bool)
  | setFineCountdown (v : Nat)
  /-- Test set-up only, as all that follow (R56). -/
  | setA (v : Nat)
  | setL (v : Nat)
  | setI (ch : Channel) (sec : Sector)
  | setP (v : Nat)
  | setLoop (name : LoopName) (k v : Nat)
  | setVoltageOut (k : Fin 4) (v : Int)
  | setBinaryOut (k : Fin 4) (v : Nat)
deriving DecidableEq, Repr

/-- The effect of a host action (R55, R56, R75). -/
def State.hostDo (s : State) : HostAction → State
  | .write ch sec v => s.hostWrite ch sec v
  | .setDiscreteInA v => { s with discreteInA := mask24 v }
  | .setDiscreteInB v => { s with discreteInB := mask24 v }
  | .setDetector v => s.setDetector v
  | .setFineCountdown v => { s with fineCountdown := mask24 v }
  | .setA v => s.setA (mask24 v)
  | .setL v => s.setL (mask24 v)
  | .setI ch sec => s.setI (loc ch sec)
  | .setP v => s.setP (BitVec.ofNat 3 v)
  | .setLoop name k v => s.hostWrite name.channel k v
  | .setVoltageOut k v => s.setVoltage k (BitVec.ofInt 16 v)
  | .setBinaryOut k v => s.setBinary k (BitVec.ofNat 2 v)

/-- What `step` returns to the host (R258). -/
inductive StepStatus
  | ok | endOfRun
deriving DecidableEq, Repr

/-- The status of a step called in `s`: END_OF_RUN in HALTED, OK in RUNNING (R251, R258). -/
def State.stepStatus (s : State) : StepStatus := if s.halted then .endOfRun else .ok

/-- What `run` returns to the host (R265). -/
inductive RunStatus
  | halted | budgetExhausted
deriving DecidableEq, Repr

/-- `run(max_cycles)`: step until halted or until the budget is spent (R265). -/
def run : Nat → State → Host.Outcome (RunStatus × State) Fault Refusal
  | 0, s => .next (if s.halted then .halted else .budgetExhausted, s)
  | k + 1, s =>
    if s.halted then .next (.halted, s)
    else
      match step s with
      | .next t => run k t
      | .fault r => .fault r
      | .refused r => .refused r

end Sys2Proof.Machine
end

