-- ==== Sys2Proof/Safety.lean ====
section
/-! DEFINITION. What counts as a safe run and a well-formed state, and the terms the claims use. -/

namespace Sys2Proof.Machine

/-- The invariant of the CORE: bulk memory in canonical form and listing populated cells only (R38), and I of the form
`loc(ch, sec)`, its bits 23..15 and 1..0 zero (R34, D7). The 24-bit closure of R51 holds by type. -/
structure State.Inv (s : State) : Prop where
  bulk_wf : s.bulk.wf
  bulk_populated : ∀ x ∈ s.bulk, ∃ ch sec, populated s.memSize ch sec = true ∧ x.1 = ch * 128 + sec
  location : s.regI = loc (chan s.regI) (sect s.regI)

/-- The end of a run for an observer: the first state with `halted = 1`, whatever `error` holds (R267). -/
def State.Ended (s : State) : Prop := s.halted = true

/-- A safe run of `k` steps: it never leaves the machine, and the arithmetic error is not signalled in it (R330, R331). -/
def SafeRun : Nat → State → Prop
  | 0, s => s.error = false
  | k + 1, s => s.error = false ∧ ∃ t, step s = .next t ∧ SafeRun k t

/-- The location the next-sector rule gives after an instruction at `s` with pointer `sp` (R255). -/
def State.sequenced (s : State) (sp : NextSector) : Word :=
  BitVec.ofNat 24 ((chan s.regI).toNat * 512 + sp.toNat * 4)

/-- The state `e` one word time later, control at `dest`: `current_sector` and `cycle_count` advanced (R256), and
`fine_countdown`, if enabled in `e`, one less but never below 0 (R257). Nothing else differs from `e`. -/
def State.wordTimeLater (e : State) (dest : Word) : State :=
  { e with
    regI := dest
    currentSector := Fin.ofNat 128 (e.currentSector.val + 1)
    cycleCount := e.cycleCount + 1
    fineCountdown := BitVec.ofNat 24
      (if e.countdownEnabled = true then e.fineCountdown.toNat - 1 else e.fineCountdown.toNat) }

/-- What a step that fetched an instruction with opcode `op`, FLAG `flag` and sector field `sec` leaves when its main
effect gave `e` and control goes to `dest`: if FLAG is set and the opcode is in FLAG_STORE_OPS the flag store of R201 runs
on `e` (R200, R202), and then one word time passes. -/
def State.completed (e : State) (op : Opcode) (flag : Bool) (sec : Sector) (dest : Word) : State :=
  State.wordTimeLater (if flag = true ∧ op ∈ e.flagStoreOps then e.flagStore sec else e) dest

/-- The number of words of the loop on a channel, for a loop channel (R36, R72). -/
def loopSize (ch : Nat) : Option Nat :=
  if ch = 0o52 then some 4
  else if ch = 0o54 then some 16
  else if ch = 0o56 then some 8
  else if ch = 0o60 then some 1
  else if ch = 0o64 then some 1
  else if ch = 0o70 then some 4
  else if ch = 0o72 then some 4
  else none

/-- Two addresses name one storage word: the same loop channel with sectors equal modulo its size, or the same populated
bulk cell (R73, R84). -/
def SameWord (size : MemSize) (ch sec ch' sec' : Nat) : Prop :=
  ch = ch' ∧
    match loopSize ch with
    | some n => sec % n = sec' % n
    | none => sec = sec' ∧ populated size ch sec = true

/-- The two states are alike in everything an instruction's effect on memory, on A, L, I and on the run state can depend
on. Not named: N, P, `error`, the output latches, the detector, the countdown, the counters and the trace, which no
instruction reads (R33, R35, R40, R46, R48, R49, R50). -/
structure SameToPrograms (s t : State) : Prop where
  regA : s.regA = t.regA
  regL : s.regL = t.regL
  regI : s.regI = t.regI
  loopU : s.loopU = t.loopU
  loopF : s.loopF = t.loopF
  loopE : s.loopE = t.loopE
  loopH : s.loopH = t.loopH
  loopV : s.loopV = t.loopV
  loopR : s.loopR = t.loopR
  bulk : s.bulk = t.bulk
  halted : s.halted = t.halted
  d37cMode : s.d37cMode = t.d37cMode
  discreteInA : s.discreteInA = t.discreteInA
  discreteInB : s.discreteInB = t.discreteInB
  memSize : s.memSize = t.memSize
  flagStoreOps : s.flagStoreOps = t.flagStoreOps

/-- The two states differ at most in the storage words a memory write can reach: loops, L and bulk memory (R75). -/
def SameButStorage (s t : State) : Prop :=
  t = { s with
    regL := t.regL, loopU := t.loopU, loopF := t.loopF, loopE := t.loopE, loopH := t.loopH, loopV := t.loopV,
    loopR := t.loopR, bulk := t.bulk }

/-- Where an instruction that transfers control in state `s` sends it, if it does (R260, R261, R262). -/
def branchTarget (s : State) : Instr → Option Word
  | .tra _ _ c sec => some (loc c sec)
  | .tmi _ _ c sec => if s.regA.getLsbD 23 = true then some (loc c sec) else none
  | .tmi2 _ _ c sec => if s.regA.getLsbD 23 = true then some (loc c sec) else none
  | .tze _ _ c sec => if s.regA.toNat % 2 ^ 23 = 0 then some (loc c sec) else none
  | _ => none

/-- The two conditions under which an instruction sets `error` (R333). -/
def setsError (s : State) : Instr → Prop
  | .div _ _ c sec => mag (s.operand c sec) = 0 ∨ mag s.regA ≥ mag (s.operand c sec)
  | _ => False

end Sys2Proof.Machine
end

