-- ==== Sys2Proof/Certificates/Slice0/Obligations.lean ====
section
/-! DEFINITION. The statements for the provers. Each docstring says which rule of spec/ it formalises. `completed`,
`wordTimeLater` and `sequenced` (Safety.lean) say what follows the main effect of an instruction; `s.operand c sec` is
`MemRead(C, S)` (R151). -/

open Sys2Proof Sys2Proof.Machine

/-! ### Encoding -/

/-- R101: the fields of a word, the word from its fields and the two unused bits, and its operand address. R15: `loc(ch,
sec)` puts channel and sector at the same bits, and `chan` and `sect` read the two back. -/
def Obligations.WordIsItsFields : Prop :=
  (∀ (ch : Channel) (sec : Sector),
    (loc ch sec).toNat = ch.toNat * 2 ^ 9 + sec.toNat * 2 ^ 2 ∧ chan (loc ch sec) = ch ∧ sect (loc ch sec) = sec) ∧
  ∀ w : Word,
    (opField w).toNat = w.toNat / 2 ^ 20 ∧
    flagField w = decide (w.toNat / 2 ^ 19 % 2 = 1) ∧
    (spField w).toNat = w.toNat / 2 ^ 15 % 2 ^ 4 ∧
    (chan w).toNat = w.toNat / 2 ^ 9 % 2 ^ 6 ∧
    (sect w).toNat = w.toNat / 2 ^ 2 % 2 ^ 7 ∧
    w.toNat = (opField w).toNat * 2 ^ 20 + (flagField w).toNat * 2 ^ 19 + (spField w).toNat * 2 ^ 15
      + (chan w).toNat * 2 ^ 9 + (sect w).toNat * 2 ^ 2 + w.toNat % 4 ∧
    loc (chan w) (sect w) = w &&& 0x7FFC#24

/-- The worked encodings of R116, read by the decoder, each in the mode it belongs to. -/
def Obligations.WorkedEncodingsDecode : Prop :=
  (∀ m, decode m 0x910004#24 = .cla false 2#4 0#6 1#7) ∧
  (∀ m, decode m 0xD2000C#24 = .add false 4#4 0#6 3#7) ∧
  (∀ m, decode m 0xB28018#24 = .sto false 5#4 0#6 6#7) ∧
  (∀ m, decode m 0x830048#24 = .hpr false 6#4 0#6 false) ∧
  decode true 0x710004#24 = .div false 2#4 0#6 1#7 ∧
  (∀ m, decode m 0x800048#24 = .hpr false 0#4 0#6 false) ∧
  decode true 0x000164#24 = .alc false 0#4 0#6 1 ∧
  (∀ m, decode m 0xA0540C#24 = .tra false 0#4 0o52#6 3#7)

/-- Decoding the word of any instruction well-formed in mode `m`, with every operand the encoding admits, gives it back. -/
def Obligations.DecodeOfEncodeIsTheInstruction : Prop :=
  ∀ (m : Bool) (i : Instr), wellFormed m i = true → ∃ w, encode i = some w ∧ decode m w = i

/-- Every word decodes, in either mode, to a well-formed instruction whose word it is but for bits 1..0, which every family
ignores (R112, R113). -/
def Obligations.EncodeOfDecodeIsTheWord : Prop :=
  ∀ (m : Bool) (w : Word), wellFormed m (decode m w) = true ∧ encode (decode m w) = some (w &&& 0xFFFFFC#24) ∧
    decode m w = decode m (w &&& 0xFFFFFC#24)

/-- R114: the words that the mode bit makes two instructions of are exactly those of opcodes 2 and 7, shift sub-ops 0x0B and
0x0F, and special sub-op 0x10. -/
def Obligations.ModeChangesExactlyTheOverloads : Prop :=
  ∀ w : Word, decode false w ≠ decode true w ↔
    opField w = 2#4 ∨ opField w = 7#4 ∨
    (opField w = 0#4 ∧ (shiftSub (sect w) = 0x0B#4 ∨ shiftSub (sect w) = 0x0F#4)) ∨
    (opField w = 8#4 ∧ specialSub (sect w) = 0x10#6)

/-! ### The step -/

/-- R253 (derived there from R252 and R74): in RUNNING, a step runs the instruction that the word `MemRead(chan(I),
sect(I))` decodes to in the machine's mode; where that address names no storage the word is 0, a shift no-op with Sp = 0.
`exec` is the whole rest of the step. -/
def Obligations.StepRunsTheDecodedInstruction : Prop :=
  ∀ s : State, s.halted = false →
    step s = exec (decode s.d37cMode (s.memRead (chan s.regI).toNat (sect s.regI).toNat)) s ∧
    (loopSize (chan s.regI).toNat = none → populated s.memSize (chan s.regI).toNat (sect s.regI).toNat = false →
      step s = exec (.shnop false 0#4 0#6 0#4 0#3) s)

/-- R251 and R258 (the spec's decision D28): a step in HALTED changes no state and returns END_OF_RUN; a step in RUNNING
returns OK. The status is a function beside `step` (log 9). -/
def Obligations.HaltedStepChangesNothing : Prop :=
  ∀ s : State, (s.halted = true → step s = .next s ∧ s.stepStatus = .endOfRun) ∧ (s.halted = false → s.stepStatus = .ok)

/-- No instruction and no step faults or is refused, in any state (R330). -/
def Obligations.EveryStepHasANextState : Prop :=
  (∀ (i : Instr) (s : State), ∃ t, exec i s = .next t) ∧ ∀ s : State, ∃ t, step s = .next t

/-- R256: every step executed in RUNNING advances `current_sector` modulo 128 and `cycle_count`, each by one; that of HPR
and those of no-ops too. -/
def Obligations.WordTimePassesEveryStep : Prop :=
  ∀ s t : State, s.halted = false → step s = .next t →
    t.currentSector.val = (s.currentSector.val + 1) % 128 ∧ t.cycleCount = s.cycleCount + 1

/-- R257 (derived there; the spec's decision D30): a step executed in RUNNING takes one from a countdown above 0 if
`countdown_enabled` is set after the instruction's own effect, and leaves it else; whatever value the countdown holds,
nothing else of the next state depends on it, so reaching 0 raises and sets nothing. -/
def Obligations.CountdownFallsAfterTheEffect : Prop :=
  ∀ s t : State, s.halted = false → step s = .next t →
    ∀ x : BitVec 24, step { s with fineCountdown := x } = .next { t with
      fineCountdown := BitVec.ofNat 24 (if t.countdownEnabled = true then x.toNat - 1 else x.toNat) }

/-- R259 (derived there; with the spec's decision D8): an instruction that takes no branch leaves I = loc(ch, Sp) of its own
channel, numerically (ch << 9) | (p << 2); a taken branch leaves its target. It holds of every instruction. -/
def Obligations.SequencingLaw : Prop :=
  ∀ (i : Instr) (s t : State), exec i s = .next t →
    (∀ target, branchTarget s i = some target → t.regI = target) ∧
    (branchTarget s i = none → t.regI.toNat = (chan s.regI).toNat * 2 ^ 9 + i.head.sp.toNat * 2 ^ 2)

/-- The invariant of the CORE is kept by every step from every state that has it. -/
def Obligations.EveryStepKeepsTheInvariant : Prop :=
  ∀ s t : State, s.Inv → step s = .next t → t.Inv

/-- The state after reset has the invariant, whatever the parameters of the construction. -/
def Obligations.ResetHasTheInvariant : Prop :=
  State.reset.Inv ∧ ∀ m size ops, (State.init m size ops).Inv

/-! ### Memory -/

/-- R74: `MemRead`, with a populated cell read at its linear index; the host's read is the same function. -/
def Obligations.MemReadIsTheChannelMux : Prop :=
  ∀ (s : State) (ch sec : Nat), s.hostRead ch sec = s.memRead ch sec ∧ s.memRead ch sec =
    if ch = 0o52 then s.loopF[sec % 4]! else if ch = 0o54 then s.loopH[sec % 16]! else if ch = 0o56 then s.loopE[sec % 8]!
    else if ch = 0o60 then s.loopU else if ch = 0o64 then s.regL else if ch = 0o70 then s.loopV[sec % 4]!
    else if ch = 0o72 then s.loopR[sec % 4]!
    else if populated s.memSize ch sec = true then s.bulk.read (ch * 128 + sec) else 0#24

/-- A write is read back, masked, at every address that names the same storage word, and changes what no other address reads
(R75, R77); it changes nothing but storage. -/
def Obligations.ReadAfterWrite : Prop :=
  ∀ (s : State) (ch sec v : Nat), SameButStorage s (s.hostWrite ch sec v) ∧ ∀ ch' sec' : Nat,
    (SameWord s.memSize ch sec ch' sec' → (s.hostWrite ch sec v).hostRead ch' sec' = BitVec.ofNat 24 v) ∧
    (¬ SameWord s.memSize ch sec ch' sec' → (s.hostWrite ch sec v).hostRead ch' sec' = s.hostRead ch' sec')

/-- R76 (derived there from R73 to R75): on a loop channel of size n, a write at k below n is read back, masked, at every k
+ j*n. -/
def Obligations.LoopAliasing : Prop :=
  ∀ (s : State) (c n k j v : Nat), loopSize c = some n → k < n →
    (s.hostWrite c k v).hostRead c (k + j * n) = BitVec.ofNat 24 v ∧
    ((s.hostWrite c k v).hostRead c (k + j * n)).toNat = v % 2 ^ 24

/-- R78 (derived there; the spec's decision D43): a channel of 64 or more reads 0 and takes no write; a sector of 128 or
more selects a loop word modulo the size on a loop channel, and elsewhere reads 0 and takes no write; the fields of an
instruction never reach such arguments. -/
def Obligations.HostArgumentsOutOfRange : Prop :=
  ∀ (s : State) (ch sec v : Nat),
    (64 ≤ ch → s.hostRead ch sec = 0#24 ∧ s.hostWrite ch sec v = s) ∧
    (128 ≤ sec → ∀ n, loopSize ch = some n →
      s.hostRead ch sec = s.hostRead ch (sec % n) ∧ s.hostWrite ch sec v = s.hostWrite ch (sec % n) v) ∧
    (128 ≤ sec → loopSize ch = none → s.hostRead ch sec = 0#24 ∧ s.hostWrite ch sec v = s) ∧
    ∀ w : Word, (chan w).toNat < 64 ∧ (sect w).toNat < 128

/-- R38 (the spec's decisions D3 and D4): which cells are populated, and what that leaves in each size; what is not
populated reads 0 and ignores writes. -/
def Obligations.PopulatedCells : Prop :=
  ∀ ch sec : Nat,
    (∀ size, populated size ch sec = true ↔
      ch < 47 ∧ sec < 128 ∧ loopSize ch = none ∧ ch * 128 + sec < (if size = .d37c then 7222 else 2944)) ∧
    (populated .d37c ch sec = true ↔ ch < 47 ∧ sec < 128 ∧ loopSize ch = none) ∧
    (populated .d17b ch sec = true ↔ ch < 23 ∧ sec < 128) ∧
    ∀ (s : State) (w : Word), loopSize ch = none → populated s.memSize ch sec = false →
      s.memRead ch sec = 0#24 ∧ s.memWrite ch sec w = s

/-- R88 (derived there; the spec's decision D36): a STO to the location its own Sp names changes the instruction the next
step runs. -/
def Obligations.StoredWordIsFetchedNext : Prop :=
  ∀ (s t : State) (flag : Bool) (sp : NextSector), s.halted = false →
    SameWord s.memSize (chan s.regI).toNat sp.toNat (chan s.regI).toNat sp.toNat →
    exec (.sto flag sp (chan s.regI) (0#3 ++ sp)) s = .next t → step t = exec (decode t.d37cMode s.regA) t

/-! ### The arithmetic unit -/

/-- R140 and R141: the two conversions. -/
def Obligations.SignMagnitudeConversions : Prop :=
  (∀ w : Word, toSigned w = if w.toNat / 2 ^ 23 = 1 then -((w.toNat % 2 ^ 23 : Nat) : Int) else (w.toNat : Int)) ∧
  (∀ w : Word, -(2 ^ 23 - 1) ≤ toSigned w ∧ toSigned w ≤ 2 ^ 23 - 1) ∧
  toSigned 0x000000#24 = 0 ∧ toSigned 0x800000#24 = 0 ∧
  (∀ x : Int, -(2 ^ 23 - 1) ≤ x → x ≤ 2 ^ 23 - 1 →
    (fromSigned x).toNat = (if x < 0 then 2 ^ 23 + x.natAbs else x.natAbs) ∧ fromSigned x ≠ 0x800000#24)

/-- R149 (derived there from R140 to R144), items 1 to 7: the laws of `add` and `sub`. -/
def Obligations.LawsOfAddAndSub : Prop :=
  (∀ x : Int, -(2 ^ 23 - 1) ≤ x → x ≤ 2 ^ 23 - 1 → toSigned (fromSigned x) = x) ∧
  (∀ a b : Word, (toSigned a + toSigned b > 2 ^ 23 - 1 → smAdd a b = 0x7FFFFF#24) ∧
    (toSigned a + toSigned b < -(2 ^ 23 - 1) → smAdd a b = 0xFFFFFF#24) ∧
    (toSigned a - toSigned b > 2 ^ 23 - 1 → smSub a b = 0x7FFFFF#24) ∧
    (toSigned a - toSigned b < -(2 ^ 23 - 1) → smSub a b = 0xFFFFFF#24)) ∧
  (∀ a b : Word, smAdd a b = smAdd b a ∧ smSub a b = smAdd a (complement b)) ∧
  (∀ a b : Word, (toSigned (smAdd a b) = 0 → smAdd a b = 0#24) ∧ (toSigned (smSub a b) = 0 → smSub a b = 0#24)) ∧
  (∀ a : Word, smAdd a 0#24 = fromSigned (toSigned a) ∧ smAdd a 0x800000#24 = fromSigned (toSigned a) ∧
    (a ≠ 0x800000#24 → fromSigned (toSigned a) = a) ∧ smSub a a = 0#24) ∧
  (∀ a b a' b' : Word, toSigned a = toSigned a' → toSigned b = toSigned b' → smAdd a b = smAdd a' b' ∧ smSub a b = smSub a' b') ∧
  (∀ flag sp c sec (s t : State), (exec (.add flag sp c sec) s = .next t ∨ exec (.sub flag sp c sec) s = .next t) →
    t.error = s.error ∧ t.halted = s.halted ∧ t.d37cMode = s.d37cMode)

/-- R152 (the spec's decision D17): CLA copies the operand bit for bit. -/
def Obligations.ClaLoadsTheOperand : Prop :=
  (∀ m w, opField w = 9#4 → decode m w = .cla (flagField w) (spField w) (chan w) (sect w)) ∧
  ∀ flag sp c sec (s : State), exec (.cla flag sp c sec) s =
    .next (State.completed { s with regA := s.operand c sec } 9#4 flag sec (s.sequenced sp))

/-- R153: ADD leaves in A the sum, clamped to the representable range, and never −0. -/
def Obligations.AddSaturates : Prop :=
  (∀ m w, opField w = 13#4 → decode m w = .add (flagField w) (spField w) (chan w) (sect w)) ∧
  ∀ flag sp c sec (s : State), ∃ a : Word,
    exec (.add flag sp c sec) s = .next (State.completed { s with regA := a } 13#4 flag sec (s.sequenced sp)) ∧
    toSigned a = max (-(2 ^ 23 - 1)) (min (2 ^ 23 - 1) (toSigned s.regA + toSigned (s.operand c sec))) ∧ a ≠ 0x800000#24

/-- R154: SUB leaves in A the difference, clamped to the representable range, and never −0. -/
def Obligations.SubSaturates : Prop :=
  (∀ m w, opField w = 15#4 → decode m w = .sub (flagField w) (spField w) (chan w) (sect w)) ∧
  ∀ flag sp c sec (s : State), ∃ a : Word,
    exec (.sub flag sp c sec) s = .next (State.completed { s with regA := a } 15#4 flag sec (s.sequenced sp)) ∧
    toSigned a = max (-(2 ^ 23 - 1)) (min (2 ^ 23 - 1) (toSigned s.regA - toSigned (s.operand c sec))) ∧ a ≠ 0x800000#24

/-- R155 and R156: SAD and SSU work on each 12-bit lane modulo 4096, with no carry or borrow between the lanes. -/
def Obligations.SplitAddAndSubtract : Prop :=
  (∀ m w, (opField w = 12#4 → decode m w = .sad (flagField w) (spField w) (chan w) (sect w)) ∧
    (opField w = 14#4 → decode m w = .ssu (flagField w) (spField w) (chan w) (sect w))) ∧
  ∀ flag sp c sec (s : State), ∃ a b : Word,
    exec (.sad flag sp c sec) s = .next (State.completed { s with regA := a } 12#4 flag sec (s.sequenced sp)) ∧
    exec (.ssu flag sp c sec) s = .next (State.completed { s with regA := b } 14#4 flag sec (s.sequenced sp)) ∧
    a.toNat / 4096 = (s.regA.toNat / 4096 + (s.operand c sec).toNat / 4096) % 4096 ∧
    a.toNat % 4096 = (s.regA.toNat % 4096 + (s.operand c sec).toNat % 4096) % 4096 ∧
    b.toNat / 4096 = (s.regA.toNat / 4096 + 4096 - (s.operand c sec).toNat / 4096) % 4096 ∧
    b.toNat % 4096 = (s.regA.toNat % 4096 + 4096 - (s.operand c sec).toNat % 4096) % 4096

/-- R157 and R158 (the spec's decisions D13 and D18): SCL clamps each lane, read as twelve-bit two's complement, to the
magnitude of the operand lane with its own sign. With the default FLAG_STORE_OPS the flag store is not run. -/
def Obligations.SplitCompareAndLimit : Prop :=
  (∀ m w, opField w = 1#4 → decode m w = .scl (flagField w) (spField w) (chan w) (sect w)) ∧
  ∀ flag sp c sec (s : State), ∃ a : Word,
    exec (.scl flag sp c sec) s = .next (State.completed { s with regA := a } 1#4 flag sec (s.sequenced sp)) ∧
    (let clamp := fun (x y r : BitVec 12) => r.toInt =
      if |x.toInt| > |y.toInt| then (if x.toInt < 0 then -|y.toInt| else |y.toInt|) else x.toInt
     clamp (s.regA.extractLsb' 12 12) ((s.operand c sec).extractLsb' 12 12) (a.extractLsb' 12 12) ∧
     clamp (s.regA.extractLsb' 0 12) ((s.operand c sec).extractLsb' 0 12) (a.extractLsb' 0 12)) ∧
    (s.flagStoreOps = Config.flagStoreOps → exec (.scl true sp c sec) s = exec (.scl false sp c sec) s)

/-! ### Multiply and divide -/

/-- R182 with R180 (the spec's decision D19 for the sign of a zero product): MPY leaves the exact product of the magnitudes
in A:L, the exclusive or of the signs in A (also on a zero product), and sign 0 in L. -/
def Obligations.MpyProduct : Prop :=
  (∀ m w, opField w = 5#4 → decode m w = .mpy (flagField w) (spField w) (chan w) (sect w)) ∧
  ∀ flag sp c sec (s : State), ∃ a l : Word,
    exec (.mpy flag sp c sec) s =
      .next (State.completed { s with regA := a, regL := l } 5#4 flag sec (s.sequenced sp)) ∧
    mag a * 2 ^ 23 + mag l = mag s.regA * mag (s.operand c sec) ∧
    sign a = (sign s.regA ^^ sign (s.operand c sec)) ∧ sign l = false

/-- R184 with R183 (the spec's decisions D20, and D19 for the sign of a zero product): SMP multiplies the magnitudes of bits
22..14; the whole product is in L, and A holds only a sign. -/
def Obligations.SmpProduct : Prop :=
  (∀ m w, opField w = 4#4 → decode m w = .smp (flagField w) (spField w) (chan w) (sect w)) ∧
  ∀ flag sp c sec (s : State), ∃ a l : Word,
    exec (.smp flag sp c sec) s =
      .next (State.completed { s with regA := a, regL := l } 4#4 flag sec (s.sequenced sp)) ∧
    mag a = 0 ∧ sign a = (sign s.regA ^^ sign (s.operand c sec)) ∧
    l.toNat = s.regA.toNat / 2 ^ 14 % 2 ^ 9 * ((s.operand c sec).toNat / 2 ^ 14 % 2 ^ 9)

/-- R185: MPM, opcode 7 in D17B mode, multiplies the magnitudes; both result signs are 0. -/
def Obligations.MpmProduct : Prop :=
  (∀ w, opField w = 7#4 → decode false w = .mpm (flagField w) (spField w) (chan w) (sect w)) ∧
  ∀ flag sp c sec (s : State), ∃ a l : Word,
    exec (.mpm flag sp c sec) s =
      .next (State.completed { s with regA := a, regL := l } 7#4 flag sec (s.sequenced sp)) ∧
    a.toNat * 2 ^ 23 + l.toNat = mag s.regA * mag (s.operand c sec) ∧ sign a = false ∧ sign l = false

/-- R186 (the spec's decisions D19 and D21): DIV, opcode 7 in D37C mode. A divisor of magnitude 0 sets `error` and leaves A
and L; else A takes the quotient of the 46-bit magnitude, saturated with `error` set if it is over 23 bits, and L the true
remainder with the dividend's sign unless it is 0. `error` is never cleared, and the flag store runs in every case. -/
def Obligations.DivQuotientAndRemainder : Prop :=
  (∀ w, opField w = 7#4 → decode true w = .div (flagField w) (spField w) (chan w) (sect w)) ∧
  ∀ flag sp c sec (s : State),
    let m := s.operand c sec
    let d := mag s.regA * 2 ^ 23 + mag s.regL
    (mag m = 0 → exec (.div flag sp c sec) s =
      .next (State.completed { s with error := true } 7#4 flag sec (s.sequenced sp))) ∧
    (mag m ≠ 0 → ∃ a l : Word,
      exec (.div flag sp c sec) s =
        .next (State.completed { s with regA := a, regL := l, error := s.error || decide (d / mag m > 0x7FFFFF) }
          7#4 flag sec (s.sequenced sp)) ∧
      mag a = min (d / mag m) 0x7FFFFF ∧ sign a = (sign s.regA ^^ sign m) ∧
      mag l = d % mag m ∧ sign l = (if d % mag m = 0 then false else sign s.regA))

/-- R187 and R188 (derived there from R186): a quotient overflows exactly when mag(A) ≥ mag(M); a DIV that did not set
`error` satisfies the division identity, with the signs of R186, in the pair it wrote (read here after a DIV with FLAG = 0,
so that no flag store follows). -/
def Obligations.DivisionIdentity : Prop :=
  ∀ sp c sec (s t : State), exec (.div false sp c sec) s = .next t →
    let m := s.operand c sec
    let d := mag s.regA * 2 ^ 23 + mag s.regL
    (mag m ≠ 0 → (d / mag m > 0x7FFFFF ↔ mag s.regA ≥ mag m)) ∧
    (s.error = false → t.error = false →
      mag t.regA * mag m + mag t.regL = d ∧ mag t.regL < mag m ∧
      sign t.regA = (sign s.regA ^^ sign m) ∧
      sign t.regL = (if mag t.regL = 0 then false else sign s.regA))

/-- R189 (derived there), items 1 to 4: the laws of the multiply unit, read after an instruction with FLAG = 0, so that no
flag store follows. Item 3 compares two MPYs with A and M exchanged, and follows an MPY by a DIV in some state that holds
its result. -/
def Obligations.LawsOfTheMultiplyUnit : Prop :=
  ∀ sp c sec (s t : State),
    (exec (.mpy false sp c sec) s = .next t →
      mag t.regA * 2 ^ 23 + mag t.regL = mag s.regA * mag (s.operand c sec) ∧ sign t.regL = false ∧ t.error = s.error ∧
      (∀ sp' c' sec' (u v : State), u.regA = s.operand c sec → u.operand c' sec' = s.regA →
        exec (.mpy false sp' c' sec') u = .next v → v.regA = t.regA ∧ v.regL = t.regL) ∧
      (∀ sp' c' sec' (u : State), u.regA = t.regA → u.regL = t.regL → u.operand c' sec' = s.operand c sec →
        mag (s.operand c sec) ≠ 0 → ∃ v, exec (.div false sp' c' sec') u = .next v ∧
          mag v.regA = mag s.regA ∧ sign v.regA = sign s.regA ∧ v.regL = 0#24 ∧ v.error = u.error)) ∧
    (exec (.mpm false sp c sec) s = .next t →
      mag t.regA * 2 ^ 23 + mag t.regL = mag s.regA * mag (s.operand c sec) ∧ sign t.regL = false ∧ t.error = s.error) ∧
    (exec (.smp false sp c sec) s = .next t →
      mag t.regA * 2 ^ 23 + mag t.regL = s.regA.toNat / 2 ^ 14 % 2 ^ 9 * ((s.operand c sec).toNat / 2 ^ 14 % 2 ^ 9) ∧
      sign t.regL = false ∧ t.error = s.error)

/-! ### The flag store -/

/-- R201 and R203 (the spec's decisions D14 and D15): what each flag code k = S[2:0] writes, always from A. -/
def Obligations.FlagStoreTable : Prop :=
  ∀ (s : State) (sec : Sector),
    let k := sec.toNat % 8
    (k = 0 → s.flagStore sec = s) ∧
    (k = 1 → s.flagStore sec = { s with loopF := s.loopF.set 1 s.regA }) ∧
    (k = 2 → s.flagStore sec = { s with trace := s.trace ++ [.telemetry] }) ∧
    (k = 3 → s.flagStore sec = s.memWrite 0o50 ((sec.toNat + 126) % 128) s.regA ∧ (sec.toNat + 126) % 128 = sec.toNat - 2) ∧
    (k = 4 → s.flagStore sec = { s with loopE := s.loopE.set 4 s.regA }) ∧
    (k = 5 → s.flagStore sec = { s with regL := s.regA }) ∧
    (k = 6 → s.flagStore sec = { s with
      loopH := if sec.toNat / 8 % 2 = 0 then s.loopH.set 6 s.regA else s.loopH.set 14 s.regA }) ∧
    (k = 7 → s.flagStore sec = { s with loopU := s.regA })

/-- R200 (the spec's decision D13) and R202: of two words that differ in FLAG alone, the one with FLAG set does what the
other does and then stores the A that results, if its opcode is in FLAG_STORE_OPS; if it is not, FLAG is ignored. The
default set is that of R200. -/
def Obligations.FlagStoreFollowsTheMainEffect : Prop :=
  (∀ op : Opcode, op ∈ State.reset.flagStoreOps ↔ op.toNat ∈ [4, 5, 7, 9, 12, 13, 14, 15]) ∧
  ∀ (m : Bool) (w : Word) (s t : State), exec (decode m (w &&& 0xF7FFFF#24)) s = .next t →
    exec (decode m (w ||| 0x080000#24)) s = .next (if opField w ∈ s.flagStoreOps then t.flagStore (sect w) else t)

/-! ### Shifts -/

/-- R222, R224 and R225: SAL, SLL and SRL shift left within a lane; what leaves the lane is lost. Bits are those of the word
after, by position. -/
def Obligations.LaneLeftShifts : Prop :=
  (∀ m n, 1 ≤ n → n ≤ 8 →
    decode m (BitVec.ofNat 24 (0x000100 + n % 8 * 4)) = .sal false 0#4 0#6 n ∧
    decode m (BitVec.ofNat 24 (0x000140 + n % 8 * 4)) = .sll false 0#4 0#6 n ∧
    decode false (BitVec.ofNat 24 (0x000160 + n % 8 * 4)) = .srl false 0#4 0#6 n) ∧
  ∀ flag sp c n (s : State), ∃ a b d : Word,
    exec (.sal flag sp c n) s =
      .next (State.completed { s with regA := a } 0#4 flag (shiftSector 8#4 n) (s.sequenced sp)) ∧
    exec (.sll flag sp c n) s =
      .next (State.completed { s with regA := b } 0#4 flag (shiftSector 10#4 n) (s.sequenced sp)) ∧
    exec (.srl flag sp c n) s =
      .next (State.completed { s with regA := d } 0#4 flag (shiftSector 11#4 n) (s.sequenced sp)) ∧
    ∀ j, j < 24 →
      let shifted := decide (n ≤ j % 12) && s.regA.getLsbD (j - n)
      a.getLsbD j = shifted ∧
      b.getLsbD j = (if 12 ≤ j then shifted else s.regA.getLsbD j) ∧
      d.getLsbD j = (if j < 12 then shifted else s.regA.getLsbD j)

/-- R227, R229 and R230: SAR, SLR and SRR shift right within a lane, logically. -/
def Obligations.LaneRightShifts : Prop :=
  (∀ m n, 1 ≤ n → n ≤ 8 →
    decode m (BitVec.ofNat 24 (0x000180 + n % 8 * 4)) = .sar false 0#4 0#6 n ∧
    decode m (BitVec.ofNat 24 (0x0001C0 + n % 8 * 4)) = .slr false 0#4 0#6 n ∧
    decode false (BitVec.ofNat 24 (0x0001E0 + n % 8 * 4)) = .srr false 0#4 0#6 n) ∧
  ∀ flag sp c n (s : State), ∃ a b d : Word,
    exec (.sar flag sp c n) s =
      .next (State.completed { s with regA := a } 0#4 flag (shiftSector 12#4 n) (s.sequenced sp)) ∧
    exec (.slr flag sp c n) s =
      .next (State.completed { s with regA := b } 0#4 flag (shiftSector 14#4 n) (s.sequenced sp)) ∧
    exec (.srr flag sp c n) s =
      .next (State.completed { s with regA := d } 0#4 flag (shiftSector 15#4 n) (s.sequenced sp)) ∧
    ∀ j, j < 24 →
      let shifted := decide (j % 12 + n < 12) && s.regA.getLsbD (j + n)
      a.getLsbD j = shifted ∧
      b.getLsbD j = (if 12 ≤ j then shifted else s.regA.getLsbD j) ∧
      d.getLsbD j = (if j < 12 then shifted else s.regA.getLsbD j)

/-- R223 and R228: ALS multiplies A by 2^n modulo 2^24, ARS divides it; the sign bit is shifted like any other. -/
def Obligations.FullShifts : Prop :=
  (∀ m n, 1 ≤ n → n ≤ 8 →
    decode m (BitVec.ofNat 24 (0x000120 + n % 8 * 4)) = .als false 0#4 0#6 n ∧
    decode m (BitVec.ofNat 24 (0x0001A0 + n % 8 * 4)) = .ars false 0#4 0#6 n) ∧
  ∀ flag sp c n (s : State),
    exec (.als flag sp c n) s =
      .next (State.completed { s with regA := BitVec.ofNat 24 (s.regA.toNat * 2 ^ n) } 0#4 flag (shiftSector 9#4 n)
        (s.sequenced sp)) ∧
    exec (.ars flag sp c n) s =
      .next (State.completed { s with regA := BitVec.ofNat 24 (s.regA.toNat / 2 ^ n) } 0#4 flag (shiftSector 13#4 n)
        (s.sequenced sp))

/-- R226 and R231: ALC and ARC, D37C mode, rotate the 24 bits by n, 1 to 8: no bit is lost. -/
def Obligations.Rotates : Prop :=
  (∀ n, 1 ≤ n → n ≤ 8 →
    decode true (BitVec.ofNat 24 (0x000160 + n % 8 * 4)) = .alc false 0#4 0#6 n ∧
    decode true (BitVec.ofNat 24 (0x0001E0 + n % 8 * 4)) = .arc false 0#4 0#6 n) ∧
  ∀ flag sp c n (s : State), 1 ≤ n → n ≤ 8 → ∃ a b : Word,
    exec (.alc flag sp c n) s =
      .next (State.completed { s with regA := a } 0#4 flag (shiftSector 11#4 n) (s.sequenced sp)) ∧
    exec (.arc flag sp c n) s =
      .next (State.completed { s with regA := b } 0#4 flag (shiftSector 15#4 n) (s.sequenced sp)) ∧
    ∀ j, j < 24 → a.getLsbD ((j + n) % 24) = s.regA.getLsbD j ∧ b.getLsbD j = s.regA.getLsbD ((j + n) % 24)

/-- R232 (the spec's decision D22; log 8): COA emits the low four bits of A as one character event and writes no state; no
word decodes to it. -/
def Obligations.CharacterOutput : Prop :=
  (∀ m w flag sp c n, decode m w ≠ .coa flag sp c n) ∧
  ∀ flag sp c n (s : State), exec (.coa flag sp c n) s =
    .next (State.completed { s with trace := s.trace ++ [.char (BitVec.ofNat 4 (s.regA.toNat % 16))] } 0#4 flag
      (shiftSector 0#4 n) (s.sequenced sp))

/-! ### Control transfer, store and no-ops -/

/-- R260, R261 and R262: TRA always goes to (C, S); TMI goes there exactly when bit 23 of A is set, in both modes; opcode 2
tests the sign of A in D17B mode, and whether its magnitude is 0, with either sign, in D37C mode. With the default
FLAG_STORE_OPS, FLAG is ignored. -/
def Obligations.ControlTransfers : Prop :=
  (∀ m w, (opField w = 10#4 → decode m w = .tra (flagField w) (spField w) (chan w) (sect w)) ∧
    (opField w = 6#4 → decode m w = .tmi (flagField w) (spField w) (chan w) (sect w)) ∧
    (opField w = 2#4 → decode m w = if m = true then .tze (flagField w) (spField w) (chan w) (sect w)
      else .tmi2 (flagField w) (spField w) (chan w) (sect w))) ∧
  (∀ flag sp c sec (s : State),
    exec (.tra flag sp c sec) s = .next (State.completed s 10#4 flag sec (loc c sec)) ∧
    exec (.tmi flag sp c sec) s = .next (State.completed s 6#4 flag sec
      (if 2 ^ 23 ≤ s.regA.toNat then loc c sec else s.sequenced sp)) ∧
    exec (.tmi2 flag sp c sec) s = .next (State.completed s 2#4 flag sec
      (if 2 ^ 23 ≤ s.regA.toNat then loc c sec else s.sequenced sp)) ∧
    exec (.tze flag sp c sec) s = .next (State.completed s 2#4 flag sec
      (if s.regA = 0#24 ∨ s.regA = 0x800000#24 then loc c sec else s.sequenced sp))) ∧
  ∀ sp c sec (s : State), s.flagStoreOps = Config.flagStoreOps →
    exec (.tra true sp c sec) s = exec (.tra false sp c sec) s ∧ exec (.tmi true sp c sec) s = exec (.tmi false sp c sec) s ∧
    exec (.tmi2 true sp c sec) s = exec (.tmi2 false sp c sec) s ∧ exec (.tze true sp c sec) s = exec (.tze false sp c sec) s

/-- R233, R264 and R312 (the spec's decisions D22 and D23): a shift word with S[6] = 0, opcode 3, and the special sub-ops
that R312 lists are no-ops: the step changes only I and the counters, with FLAG ignored under the default FLAG_STORE_OPS.
The word 0, which an unpopulated address reads as, is such a shift word, with Sp = 0; the disassembly name of opcode 3 is
`?`. -/
def Obligations.NoOps : Prop :=
  (∀ m w,
    (opField w = 0#4 → (sect w).toNat < 64 →
      decode m w = .shnop (flagField w) (spField w) (chan w) (shiftSub (sect w)) (lowBits (sect w))) ∧
    (opField w = 3#4 → decode m w = .op3 (flagField w) (spField w) (chan w) (sect w)) ∧
    (opField w = 8#4 →
      ((specialSub (sect w)).toNat ∈ [0x00, 0x02, 0x03, 0x06, 0x07, 0x0A, 0x0F, 0x16, 0x17, 0x1A, 0x1B, 0x1C, 0x1D] ∨
        0x20 ≤ (specialSub (sect w)).toNat) →
      decode m w = .spnop (flagField w) (spField w) (chan w) (specialSub (sect w)) (specialBit (sect w)))) ∧
  (∀ m, decode m 0#24 = .shnop false 0#4 0#6 0#4 0#3) ∧
  (∀ (s : State) ch sec, loopSize ch = none → populated s.memSize ch sec = false → s.memRead ch sec = 0#24) ∧
  familyName 3#4 = "?" ∧
  ∀ flag sp c (s : State),
    (∀ subop cnt, exec (.shnop flag sp c subop cnt) s =
      .next (State.completed s 0#4 flag (subop ++ cnt) (s.sequenced sp)) ∧
      (s.flagStoreOps = Config.flagStoreOps →
        exec (.shnop flag sp c subop cnt) s = .next (s.wordTimeLater (s.sequenced sp)))) ∧
    (∀ sec, exec (.op3 flag sp c sec) s = .next (State.completed s 3#4 flag sec (s.sequenced sp)) ∧
      (s.flagStoreOps = Config.flagStoreOps →
        exec (.op3 flag sp c sec) s = .next (s.wordTimeLater (s.sequenced sp)))) ∧
    (∀ subop b, exec (.spnop flag sp c subop b) s =
      .next (State.completed s 8#4 flag (specialSector subop b) (s.sequenced sp)) ∧
      (s.flagStoreOps = Config.flagStoreOps →
        exec (.spnop flag sp c subop b) s = .next (s.wordTimeLater (s.sequenced sp))))

/-- R263: STO writes A to (C, S), a bulk cell or a loop word, and changes no other word, and not A; where (C, S) is neither,
it has no effect of its own. With the default FLAG_STORE_OPS, FLAG is ignored. -/
def Obligations.StoWritesTheAccumulator : Prop :=
  (∀ m w, opField w = 11#4 → decode m w = .sto (flagField w) (spField w) (chan w) (sect w)) ∧
  ∀ flag sp c sec (s : State), ∃ e : State,
    exec (.sto flag sp c sec) s = .next (State.completed e 11#4 flag sec (s.sequenced sp)) ∧
    SameButStorage s e ∧ (loopSize c.toNat = none → populated s.memSize c.toNat sec.toNat = false → e = s) ∧
    ∀ ch se : Nat, (SameWord s.memSize c.toNat sec.toNat ch se → e.memRead ch se = s.regA) ∧
      (¬ SameWord s.memSize c.toNat sec.toNat ch se → e.memRead ch se = s.memRead ch se) ∧
      (s.flagStoreOps = Config.flagStoreOps → exec (.sto true sp c sec) s = exec (.sto false sp c sec) s)

/-! ### Special and I/O -/

/-- R300 (the spec's decision D27): HPR sets `halted` and completes its step: I, the counters and the countdown advance; the
next step changes nothing. -/
def Obligations.HprHalts : Prop :=
  (∀ m, decode m 0x800048#24 = .hpr false 0#4 0#6 false ∧ decode m 0x830048#24 = .hpr false 6#4 0#6 false) ∧
  ∀ flag sp c b (s : State), ∃ t, t = State.completed { s with halted := true } 8#4 flag (specialSector 0x09#6 b) (s.sequenced sp) ∧
    exec (.hpr flag sp c b) s = .next t ∧ step t = .next t ∧ t.stepStatus = .endOfRun

/-- R301: RSD clears the detector and changes nothing else of its own. -/
def Obligations.RsdClearsTheDetector : Prop :=
  (∀ m, decode m 0x800040#24 = .rsd false 0#4 0#6 false) ∧
  ∀ flag sp c b (s : State), exec (.rsd flag sp c b) s =
    .next (State.completed { s with detector := false } 8#4 flag (specialSector 0x08#6 b) (s.sequenced sp))

/-- R302: EFC sets and HFC clears `countdown_enabled`; the decrement of the same step sees the new value, so an EFC's own
step decrements a nonzero countdown, and an HFC's does not. -/
def Obligations.CountdownEnable : Prop :=
  (∀ m, decode m 0x8000C8#24 = .efc false 0#4 0#6 false ∧ decode m 0x8000C0#24 = .hfc false 0#4 0#6 false) ∧
  ∀ flag sp c b (s : State), ∃ t u,
    t = State.completed { s with countdownEnabled := true } 8#4 flag (specialSector 0x19#6 b) (s.sequenced sp) ∧
    u = State.completed { s with countdownEnabled := false } 8#4 flag (specialSector 0x18#6 b) (s.sequenced sp) ∧
    exec (.efc flag sp c b) s = .next t ∧ exec (.hfc flag sp c b) s = .next u ∧
    t.fineCountdown.toNat = s.fineCountdown.toNat - 1 ∧ u.fineCountdown = s.fineCountdown

/-- R303 and R304: ANA and ORA act bit by bit on A and L, the sign bits like any other; ORA only in D37C mode: in D17B mode
its words have no effect of their own. -/
def Obligations.AndOrWithL : Prop :=
  (∀ m, decode m 0x800088#24 = .ana false 0#4 0#6 false) ∧ decode true 0x800080#24 = .ora false 0#4 0#6 false ∧
  (∀ (w : Word) (s : State), opField w = 8#4 → specialSub (sect w) = 0x10#6 → exec (decode false w) s =
    .next (State.completed s 8#4 (flagField w) (sect w) (s.sequenced (spField w)))) ∧
  ∀ flag sp c b (s : State), ∃ x y : Word,
    exec (.ana flag sp c b) s =
      .next (State.completed { s with regA := x } 8#4 flag (specialSector 0x11#6 b) (s.sequenced sp)) ∧
    exec (.ora flag sp c b) s =
      .next (State.completed { s with regA := y } 8#4 flag (specialSector 0x10#6 b) (s.sequenced sp)) ∧
    ∀ j, x.getLsbD j = (s.regA.getLsbD j && s.regL.getLsbD j) ∧
      y.getLsbD j = (s.regA.getLsbD j || (s.d37cMode && s.regL.getLsbD j))

/-- R305 and R306 with R145 and R146: MIM sets and COM toggles bit 23 of A and keeps the magnitude; two COMs restore A. -/
def Obligations.SignBitInstructions : Prop :=
  (∀ m, decode m 0x800090#24 = .mim false 0#4 0#6 false ∧ decode m 0x800098#24 = .com false 0#4 0#6 false) ∧
  (∀ a : Word, complement (complement a) = a) ∧
  ∀ flag sp c b (s : State), ∃ x y : Word,
    exec (.mim flag sp c b) s =
      .next (State.completed { s with regA := x } 8#4 flag (specialSector 0x12#6 b) (s.sequenced sp)) ∧
    exec (.com flag sp c b) s =
      .next (State.completed { s with regA := y } 8#4 flag (specialSector 0x13#6 b) (s.sequenced sp)) ∧
    x = minusMagnitude s.regA ∧ x.toNat = 2 ^ 23 + s.regA.toNat % 2 ^ 23 ∧
    y = complement s.regA ∧ y.toNat = (s.regA.toNat + 2 ^ 23) % 2 ^ 24

/-- R307 and R308: DIA and DIB copy an input latch into A and leave the latch; DOA copies A into its output latch. -/
def Obligations.DiscreteInputAndOutput : Prop :=
  (∀ m, decode m 0x8000A8#24 = .dia false 0#4 0#6 false ∧ decode m 0x8000A0#24 = .dib false 0#4 0#6 false ∧
    decode m 0x800058#24 = .doa false 0#4 0#6 false) ∧
  ∀ flag sp c b (s : State),
    exec (.dia flag sp c b) s = .next (State.completed { s with regA := s.discreteInA } 8#4 flag
      (specialSector 0x15#6 b) (s.sequenced sp)) ∧
    exec (.dib flag sp c b) s = .next (State.completed { s with regA := s.discreteInB } 8#4 flag
      (specialSector 0x14#6 b) (s.sequenced sp)) ∧
    exec (.doa flag sp c b) s = .next (State.completed { s with discreteOutA := s.regA } 8#4 flag
      (specialSector 0x0B#6 b) (s.sequenced sp))

/-- R309 (the spec's decisions D24 and D25): VOA, VOB and VOC write A[23:15], 0 to 511 and never negative, to
voltage_out[0], [1] and [2]; A is unchanged. No instruction writes voltage_out[3]. -/
def Obligations.VoltageOutput : Prop :=
  (∀ (i : Instr) (s t : State), exec i s = .next t → t.voltageOut[3] = s.voltageOut[3]) ∧
  (∀ m, decode m 0x800060#24 = .voa false 0#4 0#6 false ∧ decode m 0x800068#24 = .vob false 0#4 0#6 false ∧
    decode m 0x800070#24 = .voc false 0#4 0#6 false) ∧
  ∀ flag sp c b (s : State), ∃ v : BitVec 16, v.toInt = toSigned (s.regA >>> (15 : Nat)) ∧ v.toInt = ((s.regA.toNat / 2 ^ 15 : Nat) : Int) ∧
    exec (.voa flag sp c b) s = .next (State.completed { s with voltageOut := s.voltageOut.set 0 v } 8#4 flag
      (specialSector 0x0C#6 b) (s.sequenced sp)) ∧
    exec (.vob flag sp c b) s = .next (State.completed { s with voltageOut := s.voltageOut.set 1 v } 8#4 flag
      (specialSector 0x0D#6 b) (s.sequenced sp)) ∧
    exec (.voc flag sp c b) s = .next (State.completed { s with voltageOut := s.voltageOut.set 2 v } 8#4 flag
      (specialSector 0x0E#6 b) (s.sequenced sp))

/-- R310 (the spec's decision D24): BOA, BOB and BOC write A[23:22] to binary_out[0], [1] and [2]; A is unchanged. No
instruction writes binary_out[3]. -/
def Obligations.BinaryOutput : Prop :=
  (∀ (i : Instr) (s t : State), exec i s = .next t → t.binaryOut[3] = s.binaryOut[3]) ∧
  (∀ m, decode m 0x800020#24 = .boa false 0#4 0#6 false ∧ decode m 0x800028#24 = .bob false 0#4 0#6 false ∧
    decode m 0x800008#24 = .boc false 0#4 0#6 false) ∧
  ∀ flag sp c b (s : State), ∃ v : BitVec 2, v.toNat = s.regA.toNat / 2 ^ 22 ∧
    exec (.boa flag sp c b) s = .next (State.completed { s with binaryOut := s.binaryOut.set 0 v } 8#4 flag
      (specialSector 0x04#6 b) (s.sequenced sp)) ∧
    exec (.bob flag sp c b) s = .next (State.completed { s with binaryOut := s.binaryOut.set 1 v } 8#4 flag
      (specialSector 0x05#6 b) (s.sequenced sp)) ∧
    exec (.boc flag sp c b) s = .next (State.completed { s with binaryOut := s.binaryOut.set 2 v } 8#4 flag
      (specialSector 0x01#6 b) (s.sequenced sp))

/-- R311: LPR loads P from S[2:0]; its words are those of S = 0x3C to 0x3F, and load 4 to 7. No instruction reads P: with P
changed beforehand, nothing else of the next state differs. -/
def Obligations.LprLoadsThePhase : Prop :=
  (∀ (i : Instr) (s t : State) x, exec i s = .next t → ∃ y, exec i { s with regP := x } = .next { t with regP := y }) ∧
  (∀ m w, opField w = 8#4 → specialSub (sect w) = 0x1E#6 ∨ specialSub (sect w) = 0x1F#6 →
    decode m w = .lpr (flagField w) (spField w) (chan w) (lowBits (sect w)) ∧ 4 ≤ (lowBits (sect w)).toNat) ∧
  (∀ m, decode m 0x8000F0#24 = .lpr false 0#4 0#6 4#3 ∧ decode m 0x8000F4#24 = .lpr false 0#4 0#6 5#3 ∧
    decode m 0x8000F8#24 = .lpr false 0#4 0#6 6#3 ∧ decode m 0x8000FC#24 = .lpr false 0#4 0#6 7#3) ∧
  ∀ flag sp c p (s : State), exec (.lpr flag sp c p) s =
    .next (State.completed { s with regP := p } 8#4 flag (lprSector p) (s.sequenced sp))

/-! ### The whole machine -/

/-- R332 (the spec's decision D12) and the conditions of R333: an instruction sets `error` only if it is a DIV with a
divisor of magnitude 0 or with mag(A) ≥ mag(M); none clears it, and none reads it: with `error` changed beforehand, nothing
else of the next state differs. No host write changes it; reset and init clear it. -/
def Obligations.ErrorIsStickyAndUnread : Prop :=
  (∀ (s : State) (x : HostAction), (s.hostDo x).error = s.error) ∧
  (∀ s : State, s.resetOp.error = false) ∧ (∀ m size ops, (State.init m size ops).error = false) ∧
  ∀ (i : Instr) (s t : State), exec i s = .next t →
    (t.error = true ↔ s.error = true ∨ setsError s i) ∧
    ∀ x : Bool, ∃ y : Bool, exec i { s with error := x } = .next { t with error := y }

/-- No instruction but HPR changes the run state, none but LPR the phase register, and none changes N, the mode, the
parameters or the input latches (R33, R35, R39, R41, R42). -/
def Obligations.OnlyTheirOwnInstructionsWrite : Prop :=
  ∀ (i : Instr) (s t : State), exec i s = .next t →
    (t.halted ≠ s.halted → ∃ flag sp c b, i = .hpr flag sp c b) ∧
    (t.regP ≠ s.regP → ∃ flag sp c p, i = .lpr flag sp c p) ∧
    t.regN = s.regN ∧ t.d37cMode = s.d37cMode ∧ t.memSize = s.memSize ∧ t.flagStoreOps = s.flagStoreOps ∧
    t.discreteInA = s.discreteInA ∧ t.discreteInB = s.discreteInB

/-- What no instruction reads cannot influence a program: two states alike but in N, P, `error`, the output latches, the
detector, the countdown, the counters and the trace step to states that are again so alike (R33, R35, R40, R46, R48, R49,
R50). -/
def Obligations.HostOnlyStateNeverReachesPrograms : Prop :=
  ∀ s t : State, SameToPrograms s t →
    ∃ s' t', step s = .next s' ∧ step t = .next t' ∧ SameToPrograms s' t'

/-- In D17B mode no run of any length signals the arithmetic error: DIV exists in D37C mode only (R107, R333). -/
def Obligations.D17bModeNeverSignalsError : Prop :=
  ∀ (k : Nat) (s : State), s.d37cMode = false → s.error = false → SafeRun k s

/-! ### The host's operations -/

/-- R361 (the spec's decision D10): reset zeros registers, loops, latches and counters and clears `halted` and `error`; the
mode, the memory size, every bulk cell and the output trace stay. -/
def Obligations.ResetZeroesAllButMemoryAndMode : Prop :=
  ∀ s : State, ∃ t, t = s.resetOp ∧
    t.regA = 0#24 ∧ t.regL = 0#24 ∧ t.regN = 0#24 ∧ t.regI = 0#24 ∧ t.regP = 0#3 ∧ t.loopU = 0#24 ∧
    (∀ k : Fin 4, t.loopF[k] = 0#24 ∧ t.loopV[k] = 0#24 ∧ t.loopR[k] = 0#24 ∧ t.voltageOut[k] = 0#16 ∧
      t.binaryOut[k] = 0#2) ∧ (∀ k : Fin 8, t.loopE[k] = 0#24) ∧ (∀ k : Fin 16, t.loopH[k] = 0#24) ∧
    t.discreteInA = 0#24 ∧ t.discreteInB = 0#24 ∧ t.discreteOutA = 0#24 ∧ t.detector = false ∧
    t.fineCountdown = 0#24 ∧ t.countdownEnabled = false ∧ t.currentSector = 0 ∧ t.cycleCount = 0 ∧
    t.halted = false ∧ t.error = false ∧
    t.d37cMode = s.d37cMode ∧ t.memSize = s.memSize ∧ t.flagStoreOps = s.flagStoreOps ∧ t.bulk = s.bulk ∧
    t.trace = s.trace

/-- The construction is a reset with bulk memory zero and the parameters set (R360, decisions D2, D3, D10), and after a
reset I is loc(0, 0) = 0, so that the first instruction is the word of channel 0, sector 0, which the reset keeps (R362,
decision D9). The empty output trace and the parameters' values in `State.reset` are the model's choice (log 3, log 4, log
5, log 6). -/
def Obligations.InitAndTheResetVector : Prop :=
  (∀ (s : State) m size ops,
    State.init m size ops =
      { s with d37cMode := m, memSize := size, flagStoreOps := ops, bulk := [], trace := [] }.resetOp) ∧
  (∀ m size ops ch sec, (State.init m size ops).memRead ch sec = 0#24) ∧
  State.reset = State.init true .d37c [4#4, 5#4, 7#4, 9#4, 12#4, 13#4, 14#4, 15#4] ∧
  ∀ s : State, s.resetOp.regI = 0#24 ∧ s.resetOp.regI = loc 0#6 0#7 ∧
    step s.resetOp = exec (decode s.d37cMode (s.memRead 0 0)) s.resetOp

/-- R56 (the spec's decision D11): no write of the host's register surface, and no host write to memory, changes `halted`,
`error`, `d37c_mode`, `cycle_count` or `current_sector`; every one keeps the invariant of the CORE. -/
def Obligations.HostActionsKeepTheStatus : Prop :=
  ∀ (s : State) (x : HostAction),
    (s.hostDo x).halted = s.halted ∧ (s.hostDo x).error = s.error ∧ (s.hostDo x).d37cMode = s.d37cMode ∧
    (s.hostDo x).cycleCount = s.cycleCount ∧ (s.hostDo x).currentSector = s.currentSector ∧
    (s.Inv → (s.hostDo x).Inv)

/-- R265 (the spec's decision D29): `run` ends HALTED exactly in a halted state; it executes at most its budget of steps,
exactly the budget if it returns BUDGET_EXHAUSTED, counted by `cycle_count`, and does not stop for `error`. -/
def Obligations.RunExecutesItsBudget : Prop :=
  ∀ (k : Nat) (s : State), ∃ status t, run k s = .next (status, t) ∧
    (status = .halted ↔ t.halted = true) ∧ t.cycleCount ≤ s.cycleCount + k ∧
    (status = .budgetExhausted → t.cycleCount = s.cycleCount + k) ∧
    Host.Core.run Sys2Proof.core k s = .next t

/-- R120: the disassembly of a word depends on OP, FLAG, C and S alone, and two words with one disassembly have all four in
common. -/
def Obligations.DisassemblyShowsTheFields : Prop :=
  ∀ w u : Word, (disassemble w = disassemble u ↔
    opField w = opField u ∧ flagField w = flagField u ∧ chan w = chan u ∧ sect w = sect u)
end

