-- ==== Sys2Proof/Laws/Alu.lean ====
section
/-! SUPPORT. The small lemmas of the ALU primitives: sign and magnitude, lanes. -/

namespace Sys2Proof.Machine

theorem mag_eq (w : Word) : mag w = w.toNat % 2 ^ 23 := by simp [mag, BitVec.extractLsb'_toNat]

theorem sign_eq (w : Word) : sign w = decide (2 ^ 23 ≤ w.toNat) := by
  have h := w.isLt
  rw [sign, BitVec.getLsbD, Nat.testBit_eq_decide_div_mod_eq]
  exact decide_eq_decide.mpr (by omega)

theorem mag_lt (w : Word) : mag w < 2 ^ 23 := by rw [mag_eq]; exact Nat.mod_lt _ (by norm_num)

/-- A word is its sign and its magnitude (R13). -/
theorem toNat_eq_sign_mag (w : Word) : w.toNat = (sign w).toNat * 2 ^ 23 + mag w := by
  have h := w.isLt
  rw [mag_eq, sign_eq]
  by_cases hs : 2 ^ 23 ≤ w.toNat
  · rw [decide_eq_true hs, Bool.toNat_true]; omega
  · rw [decide_eq_false hs, Bool.toNat_false]; omega

theorem toNat_signMag (s : Bool) (m : Nat) : (signMag s m).toNat = s.toNat * 2 ^ 23 + m % 2 ^ 23 := by
  have h : m % 2 ^ 23 < 2 ^ 23 := Nat.mod_lt _ (by norm_num)
  unfold signMag
  rw [BitVec.toNat_append, BitVec.toNat_ofBool, BitVec.toNat_ofNat, ← Nat.shiftLeft_add_eq_or_of_lt h, Nat.shiftLeft_eq]

@[simp] theorem sign_signMag (s : Bool) (m : Nat) : sign (signMag s m) = s := by
  have h : m % 2 ^ 23 < 2 ^ 23 := Nat.mod_lt _ (by norm_num)
  rw [sign_eq, toNat_signMag]
  cases s
  · simpa using h
  · simp

@[simp] theorem mag_signMag (s : Bool) (m : Nat) : mag (signMag s m) = m % 2 ^ 23 := by
  rw [mag_eq, toNat_signMag]
  omega

/-- Two words with one sign and one magnitude are the same word. -/
theorem word_ext {a b : Word} (hs : sign a = sign b) (hm : mag a = mag b) : a = b := by
  apply BitVec.eq_of_toNat_eq
  rw [toNat_eq_sign_mag a, toNat_eq_sign_mag b, hs, hm]

@[simp] theorem signMag_sign_mag (w : Word) : signMag (sign w) (mag w) = w :=
  word_ext (by simp) (by rw [mag_signMag, Nat.mod_eq_of_lt (mag_lt w)])

theorem toNat_hi (w : Word) : (hi w).toNat = w.toNat / 4096 := by
  have h := w.isLt
  simp only [hi, BitVec.extractLsb'_toNat, Nat.shiftRight_eq_div_pow]
  omega

theorem toNat_lo (w : Word) : (lo w).toNat = w.toNat % 4096 := by
  simp [lo, BitVec.extractLsb'_toNat]

@[simp] theorem hi_pack (h l : BitVec 12) : hi (pack h l) = h := by
  ext j hj
  simp only [hi, pack, BitVec.getElem_extractLsb', BitVec.getLsbD_append]
  simp [hj]

@[simp] theorem lo_pack (h l : BitVec 12) : lo (pack h l) = l := by
  ext j hj
  simp only [lo, pack, BitVec.getElem_extractLsb', BitVec.getLsbD_append]
  simp [hj]

/-- Bit `j` of a packed word (R147). -/
theorem getLsbD_pack (h l : BitVec 12) (j : Nat) :
    (pack h l).getLsbD j = if j < 12 then l.getLsbD j else h.getLsbD (j - 12) := by
  rw [pack, BitVec.getLsbD_append]

theorem getLsbD_hi (w : Word) (j : Nat) : (hi w).getLsbD j = (decide (j < 12) && w.getLsbD (12 + j)) := by
  simp [hi, BitVec.getLsbD_extractLsb']

theorem getLsbD_lo (w : Word) (j : Nat) : (lo w).getLsbD j = (decide (j < 12) && w.getLsbD j) := by
  simp [lo, BitVec.getLsbD_extractLsb']

/-- The division proper, with the 46-bit magnitude written out (R186). -/
theorem divWords_eq (a l : Word) {m : Word} (h : mag m ≠ 0) : divWords a l m =
    { a := signMag (sign a ^^ sign m) (min ((mag a * 2 ^ 23 + mag l) / mag m) 0x7FFFFF)
      l := signMag (!decide ((mag a * 2 ^ 23 + mag l) % mag m = 0) && sign a) ((mag a * 2 ^ 23 + mag l) % mag m)
      error := decide ((mag a * 2 ^ 23 + mag l) / mag m > 0x7FFFFF) } := by
  unfold divWords pairMag
  rw [if_neg h]

end Sys2Proof.Machine
end

