-- ==== Sys2Proof/Laws/Decode.lean ====
section
/-! SUPPORT. The fields of an encoded word are those it was made of. -/

namespace Sys2Proof

variable (op : Opcode) (h : Head) (sec : Sector)

theorem getLsbD_encodeFields (j : Nat) : (encodeFields op h sec).getLsbD j =
    if j < 2 then false else if j < 9 then sec.getLsbD (j - 2) else if j < 15 then h.c.getLsbD (j - 9)
    else if j < 19 then h.sp.getLsbD (j - 15) else if j < 20 then h.flag && decide (j = 19) else op.getLsbD (j - 20) := by
  have e1 : j - 2 - 7 = j - 9 := by omega
  have e2 : j - 9 - 6 = j - 15 := by omega
  have e3 : j - 15 - 4 = j - 19 := by omega
  have e4 : j - 19 - 1 = j - 20 := by omega
  unfold encodeFields
  rw [BitVec.getLsbD_append, BitVec.getLsbD_append, BitVec.getLsbD_append, BitVec.getLsbD_append,
    BitVec.getLsbD_append, e1, e2, e3, e4]
  by_cases h1 : j < 2
  · simp [h1]
  by_cases h2 : j < 9
  · simp [h1, h2, show j - 2 < 7 by omega]
  by_cases h3 : j < 15
  · simp [h1, h2, h3, show ¬ j - 2 < 7 by omega, show j - 9 < 6 by omega]
  by_cases h4 : j < 19
  · simp [h1, h2, h3, h4, show ¬ j - 2 < 7 by omega, show ¬ j - 9 < 6 by omega, show j - 15 < 4 by omega]
  by_cases h5 : j < 20
  · obtain rfl : j = 19 := by omega
    simp
  · simp [h1, h2, h3, h4, h5, show ¬ j - 2 < 7 by omega, show ¬ j - 9 < 6 by omega, show ¬ j - 15 < 4 by omega,
      show ¬ j - 19 < 1 by omega]

@[simp] theorem opField_encodeFields : opField (encodeFields op h sec) = op := by
  ext j hj
  simp only [opField, BitVec.getElem_extractLsb', getLsbD_encodeFields]
  split_ifs <;> first | omega | simp [BitVec.getLsbD_eq_getElem, hj]

@[simp] theorem flagField_encodeFields : flagField (encodeFields op h sec) = h.flag := by
  unfold flagField
  rw [getLsbD_encodeFields]
  simp

@[simp] theorem spField_encodeFields : spField (encodeFields op h sec) = h.sp := by
  ext j hj
  simp only [spField, BitVec.getElem_extractLsb', getLsbD_encodeFields]
  split_ifs <;> first | omega | simp [BitVec.getLsbD_eq_getElem, hj]

@[simp] theorem chan_encodeFields : chan (encodeFields op h sec) = h.c := by
  ext j hj
  simp only [chan, BitVec.getElem_extractLsb', getLsbD_encodeFields]
  split_ifs <;> first | omega | simp [BitVec.getLsbD_eq_getElem, hj]

@[simp] theorem sect_encodeFields : sect (encodeFields op h sec) = sec := by
  ext j hj
  simp only [sect, BitVec.getElem_extractLsb', getLsbD_encodeFields]
  split_ifs <;> first | omega | simp [BitVec.getLsbD_eq_getElem, hj]

/-- Bit `j` of a location (R15). -/
theorem getLsbD_loc (ch : Channel) (sec : Sector) (j : Nat) : (loc ch sec).getLsbD j =
    if j < 2 then false else if j < 9 then sec.getLsbD (j - 2) else if j < 15 then ch.getLsbD (j - 9) else false := by
  have e : j - 2 - 7 = j - 9 := by omega
  unfold loc
  rw [BitVec.getLsbD_append, BitVec.getLsbD_append, BitVec.getLsbD_append, e]
  by_cases h1 : j < 2
  · simp [h1]
  by_cases h2 : j < 9
  · simp [h1, h2, show j - 2 < 7 by omega]
  by_cases h3 : j < 15
  · simp [h1, h2, h3, show ¬ j - 2 < 7 by omega, show j - 9 < 6 by omega]
  · simp [h1, h2, h3, show ¬ j - 2 < 7 by omega, show ¬ j - 9 < 6 by omega]

@[simp] theorem chan_loc (ch : Channel) (sec : Sector) : chan (loc ch sec) = ch := by
  ext j hj
  simp only [chan, BitVec.getElem_extractLsb', getLsbD_loc]
  split_ifs <;> first | omega | simp [BitVec.getLsbD_eq_getElem, hj]

@[simp] theorem sect_loc (ch : Channel) (sec : Sector) : sect (loc ch sec) = sec := by
  ext j hj
  simp only [sect, BitVec.getElem_extractLsb', getLsbD_loc]
  split_ifs <;> first | omega | simp [BitVec.getLsbD_eq_getElem, hj]

/-- A zero-extended append in numbers. -/
theorem toNat_append_eq {n m : Nat} (x : BitVec n) (y : BitVec m) : (x ++ y).toNat = x.toNat * 2 ^ m + y.toNat := by
  rw [BitVec.toNat_append, ← Nat.shiftLeft_add_eq_or_of_lt y.isLt, Nat.shiftLeft_eq]

end Sys2Proof
end

