-- ==== Sys2Proof/Laws/State.lean ====
section
/-! SUPPORT. One lemma per field per update of the state, each true by `rfl`. -/

namespace Sys2Proof.Machine

variable (s : State)

@[simp] theorem State.setA_regA (w : Word) : (s.setA w).regA = w := rfl
@[simp] theorem State.setA_regL (w : Word) : (s.setA w).regL = s.regL := rfl
@[simp] theorem State.setA_regN (w : Word) : (s.setA w).regN = s.regN := rfl
@[simp] theorem State.setA_regI (w : Word) : (s.setA w).regI = s.regI := rfl
@[simp] theorem State.setA_regP (w : Word) : (s.setA w).regP = s.regP := rfl
@[simp] theorem State.setA_loopU (w : Word) : (s.setA w).loopU = s.loopU := rfl
@[simp] theorem State.setA_loopF (w : Word) : (s.setA w).loopF = s.loopF := rfl
@[simp] theorem State.setA_loopE (w : Word) : (s.setA w).loopE = s.loopE := rfl
@[simp] theorem State.setA_loopH (w : Word) : (s.setA w).loopH = s.loopH := rfl
@[simp] theorem State.setA_loopV (w : Word) : (s.setA w).loopV = s.loopV := rfl
@[simp] theorem State.setA_loopR (w : Word) : (s.setA w).loopR = s.loopR := rfl
@[simp] theorem State.setA_bulk (w : Word) : (s.setA w).bulk = s.bulk := rfl
@[simp] theorem State.setA_halted (w : Word) : (s.setA w).halted = s.halted := rfl
@[simp] theorem State.setA_error (w : Word) : (s.setA w).error = s.error := rfl
@[simp] theorem State.setA_d37cMode (w : Word) : (s.setA w).d37cMode = s.d37cMode := rfl
@[simp] theorem State.setA_discreteInA (w : Word) : (s.setA w).discreteInA = s.discreteInA := rfl
@[simp] theorem State.setA_discreteInB (w : Word) : (s.setA w).discreteInB = s.discreteInB := rfl
@[simp] theorem State.setA_discreteOutA (w : Word) : (s.setA w).discreteOutA = s.discreteOutA := rfl
@[simp] theorem State.setA_voltageOut (w : Word) : (s.setA w).voltageOut = s.voltageOut := rfl
@[simp] theorem State.setA_binaryOut (w : Word) : (s.setA w).binaryOut = s.binaryOut := rfl
@[simp] theorem State.setA_detector (w : Word) : (s.setA w).detector = s.detector := rfl
@[simp] theorem State.setA_fineCountdown (w : Word) : (s.setA w).fineCountdown = s.fineCountdown := rfl
@[simp] theorem State.setA_countdownEnabled (w : Word) : (s.setA w).countdownEnabled = s.countdownEnabled := rfl
@[simp] theorem State.setA_currentSector (w : Word) : (s.setA w).currentSector = s.currentSector := rfl
@[simp] theorem State.setA_cycleCount (w : Word) : (s.setA w).cycleCount = s.cycleCount := rfl
@[simp] theorem State.setA_trace (w : Word) : (s.setA w).trace = s.trace := rfl
@[simp] theorem State.setA_memSize (w : Word) : (s.setA w).memSize = s.memSize := rfl
@[simp] theorem State.setA_flagStoreOps (w : Word) : (s.setA w).flagStoreOps = s.flagStoreOps := rfl

@[simp] theorem State.setL_regA (w : Word) : (s.setL w).regA = s.regA := rfl
@[simp] theorem State.setL_regL (w : Word) : (s.setL w).regL = w := rfl
@[simp] theorem State.setL_regN (w : Word) : (s.setL w).regN = s.regN := rfl
@[simp] theorem State.setL_regI (w : Word) : (s.setL w).regI = s.regI := rfl
@[simp] theorem State.setL_regP (w : Word) : (s.setL w).regP = s.regP := rfl
@[simp] theorem State.setL_loopU (w : Word) : (s.setL w).loopU = s.loopU := rfl
@[simp] theorem State.setL_loopF (w : Word) : (s.setL w).loopF = s.loopF := rfl
@[simp] theorem State.setL_loopE (w : Word) : (s.setL w).loopE = s.loopE := rfl
@[simp] theorem State.setL_loopH (w : Word) : (s.setL w).loopH = s.loopH := rfl
@[simp] theorem State.setL_loopV (w : Word) : (s.setL w).loopV = s.loopV := rfl
@[simp] theorem State.setL_loopR (w : Word) : (s.setL w).loopR = s.loopR := rfl
@[simp] theorem State.setL_bulk (w : Word) : (s.setL w).bulk = s.bulk := rfl
@[simp] theorem State.setL_halted (w : Word) : (s.setL w).halted = s.halted := rfl
@[simp] theorem State.setL_error (w : Word) : (s.setL w).error = s.error := rfl
@[simp] theorem State.setL_d37cMode (w : Word) : (s.setL w).d37cMode = s.d37cMode := rfl
@[simp] theorem State.setL_discreteInA (w : Word) : (s.setL w).discreteInA = s.discreteInA := rfl
@[simp] theorem State.setL_discreteInB (w : Word) : (s.setL w).discreteInB = s.discreteInB := rfl
@[simp] theorem State.setL_discreteOutA (w : Word) : (s.setL w).discreteOutA = s.discreteOutA := rfl
@[simp] theorem State.setL_voltageOut (w : Word) : (s.setL w).voltageOut = s.voltageOut := rfl
@[simp] theorem State.setL_binaryOut (w : Word) : (s.setL w).binaryOut = s.binaryOut := rfl
@[simp] theorem State.setL_detector (w : Word) : (s.setL w).detector = s.detector := rfl
@[simp] theorem State.setL_fineCountdown (w : Word) : (s.setL w).fineCountdown = s.fineCountdown := rfl
@[simp] theorem State.setL_countdownEnabled (w : Word) : (s.setL w).countdownEnabled = s.countdownEnabled := rfl
@[simp] theorem State.setL_currentSector (w : Word) : (s.setL w).currentSector = s.currentSector := rfl
@[simp] theorem State.setL_cycleCount (w : Word) : (s.setL w).cycleCount = s.cycleCount := rfl
@[simp] theorem State.setL_trace (w : Word) : (s.setL w).trace = s.trace := rfl
@[simp] theorem State.setL_memSize (w : Word) : (s.setL w).memSize = s.memSize := rfl
@[simp] theorem State.setL_flagStoreOps (w : Word) : (s.setL w).flagStoreOps = s.flagStoreOps := rfl

@[simp] theorem State.setI_regA (w : Word) : (s.setI w).regA = s.regA := rfl
@[simp] theorem State.setI_regL (w : Word) : (s.setI w).regL = s.regL := rfl
@[simp] theorem State.setI_regN (w : Word) : (s.setI w).regN = s.regN := rfl
@[simp] theorem State.setI_regI (w : Word) : (s.setI w).regI = w := rfl
@[simp] theorem State.setI_regP (w : Word) : (s.setI w).regP = s.regP := rfl
@[simp] theorem State.setI_loopU (w : Word) : (s.setI w).loopU = s.loopU := rfl
@[simp] theorem State.setI_loopF (w : Word) : (s.setI w).loopF = s.loopF := rfl
@[simp] theorem State.setI_loopE (w : Word) : (s.setI w).loopE = s.loopE := rfl
@[simp] theorem State.setI_loopH (w : Word) : (s.setI w).loopH = s.loopH := rfl
@[simp] theorem State.setI_loopV (w : Word) : (s.setI w).loopV = s.loopV := rfl
@[simp] theorem State.setI_loopR (w : Word) : (s.setI w).loopR = s.loopR := rfl
@[simp] theorem State.setI_bulk (w : Word) : (s.setI w).bulk = s.bulk := rfl
@[simp] theorem State.setI_halted (w : Word) : (s.setI w).halted = s.halted := rfl
@[simp] theorem State.setI_error (w : Word) : (s.setI w).error = s.error := rfl
@[simp] theorem State.setI_d37cMode (w : Word) : (s.setI w).d37cMode = s.d37cMode := rfl
@[simp] theorem State.setI_discreteInA (w : Word) : (s.setI w).discreteInA = s.discreteInA := rfl
@[simp] theorem State.setI_discreteInB (w : Word) : (s.setI w).discreteInB = s.discreteInB := rfl
@[simp] theorem State.setI_discreteOutA (w : Word) : (s.setI w).discreteOutA = s.discreteOutA := rfl
@[simp] theorem State.setI_voltageOut (w : Word) : (s.setI w).voltageOut = s.voltageOut := rfl
@[simp] theorem State.setI_binaryOut (w : Word) : (s.setI w).binaryOut = s.binaryOut := rfl
@[simp] theorem State.setI_detector (w : Word) : (s.setI w).detector = s.detector := rfl
@[simp] theorem State.setI_fineCountdown (w : Word) : (s.setI w).fineCountdown = s.fineCountdown := rfl
@[simp] theorem State.setI_countdownEnabled (w : Word) : (s.setI w).countdownEnabled = s.countdownEnabled := rfl
@[simp] theorem State.setI_currentSector (w : Word) : (s.setI w).currentSector = s.currentSector := rfl
@[simp] theorem State.setI_cycleCount (w : Word) : (s.setI w).cycleCount = s.cycleCount := rfl
@[simp] theorem State.setI_trace (w : Word) : (s.setI w).trace = s.trace := rfl
@[simp] theorem State.setI_memSize (w : Word) : (s.setI w).memSize = s.memSize := rfl
@[simp] theorem State.setI_flagStoreOps (w : Word) : (s.setI w).flagStoreOps = s.flagStoreOps := rfl

@[simp] theorem State.setP_regA (v : BitVec 3) : (s.setP v).regA = s.regA := rfl
@[simp] theorem State.setP_regL (v : BitVec 3) : (s.setP v).regL = s.regL := rfl
@[simp] theorem State.setP_regN (v : BitVec 3) : (s.setP v).regN = s.regN := rfl
@[simp] theorem State.setP_regI (v : BitVec 3) : (s.setP v).regI = s.regI := rfl
@[simp] theorem State.setP_regP (v : BitVec 3) : (s.setP v).regP = v := rfl
@[simp] theorem State.setP_loopU (v : BitVec 3) : (s.setP v).loopU = s.loopU := rfl
@[simp] theorem State.setP_loopF (v : BitVec 3) : (s.setP v).loopF = s.loopF := rfl
@[simp] theorem State.setP_loopE (v : BitVec 3) : (s.setP v).loopE = s.loopE := rfl
@[simp] theorem State.setP_loopH (v : BitVec 3) : (s.setP v).loopH = s.loopH := rfl
@[simp] theorem State.setP_loopV (v : BitVec 3) : (s.setP v).loopV = s.loopV := rfl
@[simp] theorem State.setP_loopR (v : BitVec 3) : (s.setP v).loopR = s.loopR := rfl
@[simp] theorem State.setP_bulk (v : BitVec 3) : (s.setP v).bulk = s.bulk := rfl
@[simp] theorem State.setP_halted (v : BitVec 3) : (s.setP v).halted = s.halted := rfl
@[simp] theorem State.setP_error (v : BitVec 3) : (s.setP v).error = s.error := rfl
@[simp] theorem State.setP_d37cMode (v : BitVec 3) : (s.setP v).d37cMode = s.d37cMode := rfl
@[simp] theorem State.setP_discreteInA (v : BitVec 3) : (s.setP v).discreteInA = s.discreteInA := rfl
@[simp] theorem State.setP_discreteInB (v : BitVec 3) : (s.setP v).discreteInB = s.discreteInB := rfl
@[simp] theorem State.setP_discreteOutA (v : BitVec 3) : (s.setP v).discreteOutA = s.discreteOutA := rfl
@[simp] theorem State.setP_voltageOut (v : BitVec 3) : (s.setP v).voltageOut = s.voltageOut := rfl
@[simp] theorem State.setP_binaryOut (v : BitVec 3) : (s.setP v).binaryOut = s.binaryOut := rfl
@[simp] theorem State.setP_detector (v : BitVec 3) : (s.setP v).detector = s.detector := rfl
@[simp] theorem State.setP_fineCountdown (v : BitVec 3) : (s.setP v).fineCountdown = s.fineCountdown := rfl
@[simp] theorem State.setP_countdownEnabled (v : BitVec 3) : (s.setP v).countdownEnabled = s.countdownEnabled := rfl
@[simp] theorem State.setP_currentSector (v : BitVec 3) : (s.setP v).currentSector = s.currentSector := rfl
@[simp] theorem State.setP_cycleCount (v : BitVec 3) : (s.setP v).cycleCount = s.cycleCount := rfl
@[simp] theorem State.setP_trace (v : BitVec 3) : (s.setP v).trace = s.trace := rfl
@[simp] theorem State.setP_memSize (v : BitVec 3) : (s.setP v).memSize = s.memSize := rfl
@[simp] theorem State.setP_flagStoreOps (v : BitVec 3) : (s.setP v).flagStoreOps = s.flagStoreOps := rfl

@[simp] theorem State.halt_regA : s.halt.regA = s.regA := rfl
@[simp] theorem State.halt_regL : s.halt.regL = s.regL := rfl
@[simp] theorem State.halt_regN : s.halt.regN = s.regN := rfl
@[simp] theorem State.halt_regI : s.halt.regI = s.regI := rfl
@[simp] theorem State.halt_regP : s.halt.regP = s.regP := rfl
@[simp] theorem State.halt_loopU : s.halt.loopU = s.loopU := rfl
@[simp] theorem State.halt_loopF : s.halt.loopF = s.loopF := rfl
@[simp] theorem State.halt_loopE : s.halt.loopE = s.loopE := rfl
@[simp] theorem State.halt_loopH : s.halt.loopH = s.loopH := rfl
@[simp] theorem State.halt_loopV : s.halt.loopV = s.loopV := rfl
@[simp] theorem State.halt_loopR : s.halt.loopR = s.loopR := rfl
@[simp] theorem State.halt_bulk : s.halt.bulk = s.bulk := rfl
@[simp] theorem State.halt_halted : s.halt.halted = true := rfl
@[simp] theorem State.halt_error : s.halt.error = s.error := rfl
@[simp] theorem State.halt_d37cMode : s.halt.d37cMode = s.d37cMode := rfl
@[simp] theorem State.halt_discreteInA : s.halt.discreteInA = s.discreteInA := rfl
@[simp] theorem State.halt_discreteInB : s.halt.discreteInB = s.discreteInB := rfl
@[simp] theorem State.halt_discreteOutA : s.halt.discreteOutA = s.discreteOutA := rfl
@[simp] theorem State.halt_voltageOut : s.halt.voltageOut = s.voltageOut := rfl
@[simp] theorem State.halt_binaryOut : s.halt.binaryOut = s.binaryOut := rfl
@[simp] theorem State.halt_detector : s.halt.detector = s.detector := rfl
@[simp] theorem State.halt_fineCountdown : s.halt.fineCountdown = s.fineCountdown := rfl
@[simp] theorem State.halt_countdownEnabled : s.halt.countdownEnabled = s.countdownEnabled := rfl
@[simp] theorem State.halt_currentSector : s.halt.currentSector = s.currentSector := rfl
@[simp] theorem State.halt_cycleCount : s.halt.cycleCount = s.cycleCount := rfl
@[simp] theorem State.halt_trace : s.halt.trace = s.trace := rfl
@[simp] theorem State.halt_memSize : s.halt.memSize = s.memSize := rfl
@[simp] theorem State.halt_flagStoreOps : s.halt.flagStoreOps = s.flagStoreOps := rfl

@[simp] theorem State.signalError_regA : s.signalError.regA = s.regA := rfl
@[simp] theorem State.signalError_regL : s.signalError.regL = s.regL := rfl
@[simp] theorem State.signalError_regN : s.signalError.regN = s.regN := rfl
@[simp] theorem State.signalError_regI : s.signalError.regI = s.regI := rfl
@[simp] theorem State.signalError_regP : s.signalError.regP = s.regP := rfl
@[simp] theorem State.signalError_loopU : s.signalError.loopU = s.loopU := rfl
@[simp] theorem State.signalError_loopF : s.signalError.loopF = s.loopF := rfl
@[simp] theorem State.signalError_loopE : s.signalError.loopE = s.loopE := rfl
@[simp] theorem State.signalError_loopH : s.signalError.loopH = s.loopH := rfl
@[simp] theorem State.signalError_loopV : s.signalError.loopV = s.loopV := rfl
@[simp] theorem State.signalError_loopR : s.signalError.loopR = s.loopR := rfl
@[simp] theorem State.signalError_bulk : s.signalError.bulk = s.bulk := rfl
@[simp] theorem State.signalError_halted : s.signalError.halted = s.halted := rfl
@[simp] theorem State.signalError_error : s.signalError.error = true := rfl
@[simp] theorem State.signalError_d37cMode : s.signalError.d37cMode = s.d37cMode := rfl
@[simp] theorem State.signalError_discreteInA : s.signalError.discreteInA = s.discreteInA := rfl
@[simp] theorem State.signalError_discreteInB : s.signalError.discreteInB = s.discreteInB := rfl
@[simp] theorem State.signalError_discreteOutA : s.signalError.discreteOutA = s.discreteOutA := rfl
@[simp] theorem State.signalError_voltageOut : s.signalError.voltageOut = s.voltageOut := rfl
@[simp] theorem State.signalError_binaryOut : s.signalError.binaryOut = s.binaryOut := rfl
@[simp] theorem State.signalError_detector : s.signalError.detector = s.detector := rfl
@[simp] theorem State.signalError_fineCountdown : s.signalError.fineCountdown = s.fineCountdown := rfl
@[simp] theorem State.signalError_countdownEnabled : s.signalError.countdownEnabled = s.countdownEnabled := rfl
@[simp] theorem State.signalError_currentSector : s.signalError.currentSector = s.currentSector := rfl
@[simp] theorem State.signalError_cycleCount : s.signalError.cycleCount = s.cycleCount := rfl
@[simp] theorem State.signalError_trace : s.signalError.trace = s.trace := rfl
@[simp] theorem State.signalError_memSize : s.signalError.memSize = s.memSize := rfl
@[simp] theorem State.signalError_flagStoreOps : s.signalError.flagStoreOps = s.flagStoreOps := rfl

@[simp] theorem State.setDiscreteOutA_regA (w : Word) : (s.setDiscreteOutA w).regA = s.regA := rfl
@[simp] theorem State.setDiscreteOutA_regL (w : Word) : (s.setDiscreteOutA w).regL = s.regL := rfl
@[simp] theorem State.setDiscreteOutA_regN (w : Word) : (s.setDiscreteOutA w).regN = s.regN := rfl
@[simp] theorem State.setDiscreteOutA_regI (w : Word) : (s.setDiscreteOutA w).regI = s.regI := rfl
@[simp] theorem State.setDiscreteOutA_regP (w : Word) : (s.setDiscreteOutA w).regP = s.regP := rfl
@[simp] theorem State.setDiscreteOutA_loopU (w : Word) : (s.setDiscreteOutA w).loopU = s.loopU := rfl
@[simp] theorem State.setDiscreteOutA_loopF (w : Word) : (s.setDiscreteOutA w).loopF = s.loopF := rfl
@[simp] theorem State.setDiscreteOutA_loopE (w : Word) : (s.setDiscreteOutA w).loopE = s.loopE := rfl
@[simp] theorem State.setDiscreteOutA_loopH (w : Word) : (s.setDiscreteOutA w).loopH = s.loopH := rfl
@[simp] theorem State.setDiscreteOutA_loopV (w : Word) : (s.setDiscreteOutA w).loopV = s.loopV := rfl
@[simp] theorem State.setDiscreteOutA_loopR (w : Word) : (s.setDiscreteOutA w).loopR = s.loopR := rfl
@[simp] theorem State.setDiscreteOutA_bulk (w : Word) : (s.setDiscreteOutA w).bulk = s.bulk := rfl
@[simp] theorem State.setDiscreteOutA_halted (w : Word) : (s.setDiscreteOutA w).halted = s.halted := rfl
@[simp] theorem State.setDiscreteOutA_error (w : Word) : (s.setDiscreteOutA w).error = s.error := rfl
@[simp] theorem State.setDiscreteOutA_d37cMode (w : Word) : (s.setDiscreteOutA w).d37cMode = s.d37cMode := rfl
@[simp] theorem State.setDiscreteOutA_discreteInA (w : Word) : (s.setDiscreteOutA w).discreteInA = s.discreteInA := rfl
@[simp] theorem State.setDiscreteOutA_discreteInB (w : Word) : (s.setDiscreteOutA w).discreteInB = s.discreteInB := rfl
@[simp] theorem State.setDiscreteOutA_discreteOutA (w : Word) : (s.setDiscreteOutA w).discreteOutA = w := rfl
@[simp] theorem State.setDiscreteOutA_voltageOut (w : Word) : (s.setDiscreteOutA w).voltageOut = s.voltageOut := rfl
@[simp] theorem State.setDiscreteOutA_binaryOut (w : Word) : (s.setDiscreteOutA w).binaryOut = s.binaryOut := rfl
@[simp] theorem State.setDiscreteOutA_detector (w : Word) : (s.setDiscreteOutA w).detector = s.detector := rfl
@[simp] theorem State.setDiscreteOutA_fineCountdown (w : Word) : (s.setDiscreteOutA w).fineCountdown = s.fineCountdown := rfl
@[simp] theorem State.setDiscreteOutA_countdownEnabled (w : Word) : (s.setDiscreteOutA w).countdownEnabled = s.countdownEnabled := rfl
@[simp] theorem State.setDiscreteOutA_currentSector (w : Word) : (s.setDiscreteOutA w).currentSector = s.currentSector := rfl
@[simp] theorem State.setDiscreteOutA_cycleCount (w : Word) : (s.setDiscreteOutA w).cycleCount = s.cycleCount := rfl
@[simp] theorem State.setDiscreteOutA_trace (w : Word) : (s.setDiscreteOutA w).trace = s.trace := rfl
@[simp] theorem State.setDiscreteOutA_memSize (w : Word) : (s.setDiscreteOutA w).memSize = s.memSize := rfl
@[simp] theorem State.setDiscreteOutA_flagStoreOps (w : Word) : (s.setDiscreteOutA w).flagStoreOps = s.flagStoreOps := rfl

@[simp] theorem State.setVoltage_regA (k : Fin 4) (v : BitVec 16) : (s.setVoltage k v).regA = s.regA := rfl
@[simp] theorem State.setVoltage_regL (k : Fin 4) (v : BitVec 16) : (s.setVoltage k v).regL = s.regL := rfl
@[simp] theorem State.setVoltage_regN (k : Fin 4) (v : BitVec 16) : (s.setVoltage k v).regN = s.regN := rfl
@[simp] theorem State.setVoltage_regI (k : Fin 4) (v : BitVec 16) : (s.setVoltage k v).regI = s.regI := rfl
@[simp] theorem State.setVoltage_regP (k : Fin 4) (v : BitVec 16) : (s.setVoltage k v).regP = s.regP := rfl
@[simp] theorem State.setVoltage_loopU (k : Fin 4) (v : BitVec 16) : (s.setVoltage k v).loopU = s.loopU := rfl
@[simp] theorem State.setVoltage_loopF (k : Fin 4) (v : BitVec 16) : (s.setVoltage k v).loopF = s.loopF := rfl
@[simp] theorem State.setVoltage_loopE (k : Fin 4) (v : BitVec 16) : (s.setVoltage k v).loopE = s.loopE := rfl
@[simp] theorem State.setVoltage_loopH (k : Fin 4) (v : BitVec 16) : (s.setVoltage k v).loopH = s.loopH := rfl
@[simp] theorem State.setVoltage_loopV (k : Fin 4) (v : BitVec 16) : (s.setVoltage k v).loopV = s.loopV := rfl
@[simp] theorem State.setVoltage_loopR (k : Fin 4) (v : BitVec 16) : (s.setVoltage k v).loopR = s.loopR := rfl
@[simp] theorem State.setVoltage_bulk (k : Fin 4) (v : BitVec 16) : (s.setVoltage k v).bulk = s.bulk := rfl
@[simp] theorem State.setVoltage_halted (k : Fin 4) (v : BitVec 16) : (s.setVoltage k v).halted = s.halted := rfl
@[simp] theorem State.setVoltage_error (k : Fin 4) (v : BitVec 16) : (s.setVoltage k v).error = s.error := rfl
@[simp] theorem State.setVoltage_d37cMode (k : Fin 4) (v : BitVec 16) : (s.setVoltage k v).d37cMode = s.d37cMode := rfl
@[simp] theorem State.setVoltage_discreteInA (k : Fin 4) (v : BitVec 16) : (s.setVoltage k v).discreteInA = s.discreteInA := rfl
@[simp] theorem State.setVoltage_discreteInB (k : Fin 4) (v : BitVec 16) : (s.setVoltage k v).discreteInB = s.discreteInB := rfl
@[simp] theorem State.setVoltage_discreteOutA (k : Fin 4) (v : BitVec 16) : (s.setVoltage k v).discreteOutA = s.discreteOutA := rfl
@[simp] theorem State.setVoltage_voltageOut (k : Fin 4) (v : BitVec 16) : (s.setVoltage k v).voltageOut = s.voltageOut.set k v := rfl
@[simp] theorem State.setVoltage_binaryOut (k : Fin 4) (v : BitVec 16) : (s.setVoltage k v).binaryOut = s.binaryOut := rfl
@[simp] theorem State.setVoltage_detector (k : Fin 4) (v : BitVec 16) : (s.setVoltage k v).detector = s.detector := rfl
@[simp] theorem State.setVoltage_fineCountdown (k : Fin 4) (v : BitVec 16) : (s.setVoltage k v).fineCountdown = s.fineCountdown := rfl
@[simp] theorem State.setVoltage_countdownEnabled (k : Fin 4) (v : BitVec 16) : (s.setVoltage k v).countdownEnabled = s.countdownEnabled := rfl
@[simp] theorem State.setVoltage_currentSector (k : Fin 4) (v : BitVec 16) : (s.setVoltage k v).currentSector = s.currentSector := rfl
@[simp] theorem State.setVoltage_cycleCount (k : Fin 4) (v : BitVec 16) : (s.setVoltage k v).cycleCount = s.cycleCount := rfl
@[simp] theorem State.setVoltage_trace (k : Fin 4) (v : BitVec 16) : (s.setVoltage k v).trace = s.trace := rfl
@[simp] theorem State.setVoltage_memSize (k : Fin 4) (v : BitVec 16) : (s.setVoltage k v).memSize = s.memSize := rfl
@[simp] theorem State.setVoltage_flagStoreOps (k : Fin 4) (v : BitVec 16) : (s.setVoltage k v).flagStoreOps = s.flagStoreOps := rfl

@[simp] theorem State.setBinary_regA (k : Fin 4) (v : BitVec 2) : (s.setBinary k v).regA = s.regA := rfl
@[simp] theorem State.setBinary_regL (k : Fin 4) (v : BitVec 2) : (s.setBinary k v).regL = s.regL := rfl
@[simp] theorem State.setBinary_regN (k : Fin 4) (v : BitVec 2) : (s.setBinary k v).regN = s.regN := rfl
@[simp] theorem State.setBinary_regI (k : Fin 4) (v : BitVec 2) : (s.setBinary k v).regI = s.regI := rfl
@[simp] theorem State.setBinary_regP (k : Fin 4) (v : BitVec 2) : (s.setBinary k v).regP = s.regP := rfl
@[simp] theorem State.setBinary_loopU (k : Fin 4) (v : BitVec 2) : (s.setBinary k v).loopU = s.loopU := rfl
@[simp] theorem State.setBinary_loopF (k : Fin 4) (v : BitVec 2) : (s.setBinary k v).loopF = s.loopF := rfl
@[simp] theorem State.setBinary_loopE (k : Fin 4) (v : BitVec 2) : (s.setBinary k v).loopE = s.loopE := rfl
@[simp] theorem State.setBinary_loopH (k : Fin 4) (v : BitVec 2) : (s.setBinary k v).loopH = s.loopH := rfl
@[simp] theorem State.setBinary_loopV (k : Fin 4) (v : BitVec 2) : (s.setBinary k v).loopV = s.loopV := rfl
@[simp] theorem State.setBinary_loopR (k : Fin 4) (v : BitVec 2) : (s.setBinary k v).loopR = s.loopR := rfl
@[simp] theorem State.setBinary_bulk (k : Fin 4) (v : BitVec 2) : (s.setBinary k v).bulk = s.bulk := rfl
@[simp] theorem State.setBinary_halted (k : Fin 4) (v : BitVec 2) : (s.setBinary k v).halted = s.halted := rfl
@[simp] theorem State.setBinary_error (k : Fin 4) (v : BitVec 2) : (s.setBinary k v).error = s.error := rfl
@[simp] theorem State.setBinary_d37cMode (k : Fin 4) (v : BitVec 2) : (s.setBinary k v).d37cMode = s.d37cMode := rfl
@[simp] theorem State.setBinary_discreteInA (k : Fin 4) (v : BitVec 2) : (s.setBinary k v).discreteInA = s.discreteInA := rfl
@[simp] theorem State.setBinary_discreteInB (k : Fin 4) (v : BitVec 2) : (s.setBinary k v).discreteInB = s.discreteInB := rfl
@[simp] theorem State.setBinary_discreteOutA (k : Fin 4) (v : BitVec 2) : (s.setBinary k v).discreteOutA = s.discreteOutA := rfl
@[simp] theorem State.setBinary_voltageOut (k : Fin 4) (v : BitVec 2) : (s.setBinary k v).voltageOut = s.voltageOut := rfl
@[simp] theorem State.setBinary_binaryOut (k : Fin 4) (v : BitVec 2) : (s.setBinary k v).binaryOut = s.binaryOut.set k v := rfl
@[simp] theorem State.setBinary_detector (k : Fin 4) (v : BitVec 2) : (s.setBinary k v).detector = s.detector := rfl
@[simp] theorem State.setBinary_fineCountdown (k : Fin 4) (v : BitVec 2) : (s.setBinary k v).fineCountdown = s.fineCountdown := rfl
@[simp] theorem State.setBinary_countdownEnabled (k : Fin 4) (v : BitVec 2) : (s.setBinary k v).countdownEnabled = s.countdownEnabled := rfl
@[simp] theorem State.setBinary_currentSector (k : Fin 4) (v : BitVec 2) : (s.setBinary k v).currentSector = s.currentSector := rfl
@[simp] theorem State.setBinary_cycleCount (k : Fin 4) (v : BitVec 2) : (s.setBinary k v).cycleCount = s.cycleCount := rfl
@[simp] theorem State.setBinary_trace (k : Fin 4) (v : BitVec 2) : (s.setBinary k v).trace = s.trace := rfl
@[simp] theorem State.setBinary_memSize (k : Fin 4) (v : BitVec 2) : (s.setBinary k v).memSize = s.memSize := rfl
@[simp] theorem State.setBinary_flagStoreOps (k : Fin 4) (v : BitVec 2) : (s.setBinary k v).flagStoreOps = s.flagStoreOps := rfl

@[simp] theorem State.setDetector_regA (v : Bool) : (s.setDetector v).regA = s.regA := rfl
@[simp] theorem State.setDetector_regL (v : Bool) : (s.setDetector v).regL = s.regL := rfl
@[simp] theorem State.setDetector_regN (v : Bool) : (s.setDetector v).regN = s.regN := rfl
@[simp] theorem State.setDetector_regI (v : Bool) : (s.setDetector v).regI = s.regI := rfl
@[simp] theorem State.setDetector_regP (v : Bool) : (s.setDetector v).regP = s.regP := rfl
@[simp] theorem State.setDetector_loopU (v : Bool) : (s.setDetector v).loopU = s.loopU := rfl
@[simp] theorem State.setDetector_loopF (v : Bool) : (s.setDetector v).loopF = s.loopF := rfl
@[simp] theorem State.setDetector_loopE (v : Bool) : (s.setDetector v).loopE = s.loopE := rfl
@[simp] theorem State.setDetector_loopH (v : Bool) : (s.setDetector v).loopH = s.loopH := rfl
@[simp] theorem State.setDetector_loopV (v : Bool) : (s.setDetector v).loopV = s.loopV := rfl
@[simp] theorem State.setDetector_loopR (v : Bool) : (s.setDetector v).loopR = s.loopR := rfl
@[simp] theorem State.setDetector_bulk (v : Bool) : (s.setDetector v).bulk = s.bulk := rfl
@[simp] theorem State.setDetector_halted (v : Bool) : (s.setDetector v).halted = s.halted := rfl
@[simp] theorem State.setDetector_error (v : Bool) : (s.setDetector v).error = s.error := rfl
@[simp] theorem State.setDetector_d37cMode (v : Bool) : (s.setDetector v).d37cMode = s.d37cMode := rfl
@[simp] theorem State.setDetector_discreteInA (v : Bool) : (s.setDetector v).discreteInA = s.discreteInA := rfl
@[simp] theorem State.setDetector_discreteInB (v : Bool) : (s.setDetector v).discreteInB = s.discreteInB := rfl
@[simp] theorem State.setDetector_discreteOutA (v : Bool) : (s.setDetector v).discreteOutA = s.discreteOutA := rfl
@[simp] theorem State.setDetector_voltageOut (v : Bool) : (s.setDetector v).voltageOut = s.voltageOut := rfl
@[simp] theorem State.setDetector_binaryOut (v : Bool) : (s.setDetector v).binaryOut = s.binaryOut := rfl
@[simp] theorem State.setDetector_detector (v : Bool) : (s.setDetector v).detector = v := rfl
@[simp] theorem State.setDetector_fineCountdown (v : Bool) : (s.setDetector v).fineCountdown = s.fineCountdown := rfl
@[simp] theorem State.setDetector_countdownEnabled (v : Bool) : (s.setDetector v).countdownEnabled = s.countdownEnabled := rfl
@[simp] theorem State.setDetector_currentSector (v : Bool) : (s.setDetector v).currentSector = s.currentSector := rfl
@[simp] theorem State.setDetector_cycleCount (v : Bool) : (s.setDetector v).cycleCount = s.cycleCount := rfl
@[simp] theorem State.setDetector_trace (v : Bool) : (s.setDetector v).trace = s.trace := rfl
@[simp] theorem State.setDetector_memSize (v : Bool) : (s.setDetector v).memSize = s.memSize := rfl
@[simp] theorem State.setDetector_flagStoreOps (v : Bool) : (s.setDetector v).flagStoreOps = s.flagStoreOps := rfl

@[simp] theorem State.setCountdownEnabled_regA (v : Bool) : (s.setCountdownEnabled v).regA = s.regA := rfl
@[simp] theorem State.setCountdownEnabled_regL (v : Bool) : (s.setCountdownEnabled v).regL = s.regL := rfl
@[simp] theorem State.setCountdownEnabled_regN (v : Bool) : (s.setCountdownEnabled v).regN = s.regN := rfl
@[simp] theorem State.setCountdownEnabled_regI (v : Bool) : (s.setCountdownEnabled v).regI = s.regI := rfl
@[simp] theorem State.setCountdownEnabled_regP (v : Bool) : (s.setCountdownEnabled v).regP = s.regP := rfl
@[simp] theorem State.setCountdownEnabled_loopU (v : Bool) : (s.setCountdownEnabled v).loopU = s.loopU := rfl
@[simp] theorem State.setCountdownEnabled_loopF (v : Bool) : (s.setCountdownEnabled v).loopF = s.loopF := rfl
@[simp] theorem State.setCountdownEnabled_loopE (v : Bool) : (s.setCountdownEnabled v).loopE = s.loopE := rfl
@[simp] theorem State.setCountdownEnabled_loopH (v : Bool) : (s.setCountdownEnabled v).loopH = s.loopH := rfl
@[simp] theorem State.setCountdownEnabled_loopV (v : Bool) : (s.setCountdownEnabled v).loopV = s.loopV := rfl
@[simp] theorem State.setCountdownEnabled_loopR (v : Bool) : (s.setCountdownEnabled v).loopR = s.loopR := rfl
@[simp] theorem State.setCountdownEnabled_bulk (v : Bool) : (s.setCountdownEnabled v).bulk = s.bulk := rfl
@[simp] theorem State.setCountdownEnabled_halted (v : Bool) : (s.setCountdownEnabled v).halted = s.halted := rfl
@[simp] theorem State.setCountdownEnabled_error (v : Bool) : (s.setCountdownEnabled v).error = s.error := rfl
@[simp] theorem State.setCountdownEnabled_d37cMode (v : Bool) : (s.setCountdownEnabled v).d37cMode = s.d37cMode := rfl
@[simp] theorem State.setCountdownEnabled_discreteInA (v : Bool) : (s.setCountdownEnabled v).discreteInA = s.discreteInA := rfl
@[simp] theorem State.setCountdownEnabled_discreteInB (v : Bool) : (s.setCountdownEnabled v).discreteInB = s.discreteInB := rfl
@[simp] theorem State.setCountdownEnabled_discreteOutA (v : Bool) : (s.setCountdownEnabled v).discreteOutA = s.discreteOutA := rfl
@[simp] theorem State.setCountdownEnabled_voltageOut (v : Bool) : (s.setCountdownEnabled v).voltageOut = s.voltageOut := rfl
@[simp] theorem State.setCountdownEnabled_binaryOut (v : Bool) : (s.setCountdownEnabled v).binaryOut = s.binaryOut := rfl
@[simp] theorem State.setCountdownEnabled_detector (v : Bool) : (s.setCountdownEnabled v).detector = s.detector := rfl
@[simp] theorem State.setCountdownEnabled_fineCountdown (v : Bool) : (s.setCountdownEnabled v).fineCountdown = s.fineCountdown := rfl
@[simp] theorem State.setCountdownEnabled_countdownEnabled (v : Bool) : (s.setCountdownEnabled v).countdownEnabled = v := rfl
@[simp] theorem State.setCountdownEnabled_currentSector (v : Bool) : (s.setCountdownEnabled v).currentSector = s.currentSector := rfl
@[simp] theorem State.setCountdownEnabled_cycleCount (v : Bool) : (s.setCountdownEnabled v).cycleCount = s.cycleCount := rfl
@[simp] theorem State.setCountdownEnabled_trace (v : Bool) : (s.setCountdownEnabled v).trace = s.trace := rfl
@[simp] theorem State.setCountdownEnabled_memSize (v : Bool) : (s.setCountdownEnabled v).memSize = s.memSize := rfl
@[simp] theorem State.setCountdownEnabled_flagStoreOps (v : Bool) : (s.setCountdownEnabled v).flagStoreOps = s.flagStoreOps := rfl

@[simp] theorem State.emit_regA (e : Event) : (s.emit e).regA = s.regA := rfl
@[simp] theorem State.emit_regL (e : Event) : (s.emit e).regL = s.regL := rfl
@[simp] theorem State.emit_regN (e : Event) : (s.emit e).regN = s.regN := rfl
@[simp] theorem State.emit_regI (e : Event) : (s.emit e).regI = s.regI := rfl
@[simp] theorem State.emit_regP (e : Event) : (s.emit e).regP = s.regP := rfl
@[simp] theorem State.emit_loopU (e : Event) : (s.emit e).loopU = s.loopU := rfl
@[simp] theorem State.emit_loopF (e : Event) : (s.emit e).loopF = s.loopF := rfl
@[simp] theorem State.emit_loopE (e : Event) : (s.emit e).loopE = s.loopE := rfl
@[simp] theorem State.emit_loopH (e : Event) : (s.emit e).loopH = s.loopH := rfl
@[simp] theorem State.emit_loopV (e : Event) : (s.emit e).loopV = s.loopV := rfl
@[simp] theorem State.emit_loopR (e : Event) : (s.emit e).loopR = s.loopR := rfl
@[simp] theorem State.emit_bulk (e : Event) : (s.emit e).bulk = s.bulk := rfl
@[simp] theorem State.emit_halted (e : Event) : (s.emit e).halted = s.halted := rfl
@[simp] theorem State.emit_error (e : Event) : (s.emit e).error = s.error := rfl
@[simp] theorem State.emit_d37cMode (e : Event) : (s.emit e).d37cMode = s.d37cMode := rfl
@[simp] theorem State.emit_discreteInA (e : Event) : (s.emit e).discreteInA = s.discreteInA := rfl
@[simp] theorem State.emit_discreteInB (e : Event) : (s.emit e).discreteInB = s.discreteInB := rfl
@[simp] theorem State.emit_discreteOutA (e : Event) : (s.emit e).discreteOutA = s.discreteOutA := rfl
@[simp] theorem State.emit_voltageOut (e : Event) : (s.emit e).voltageOut = s.voltageOut := rfl
@[simp] theorem State.emit_binaryOut (e : Event) : (s.emit e).binaryOut = s.binaryOut := rfl
@[simp] theorem State.emit_detector (e : Event) : (s.emit e).detector = s.detector := rfl
@[simp] theorem State.emit_fineCountdown (e : Event) : (s.emit e).fineCountdown = s.fineCountdown := rfl
@[simp] theorem State.emit_countdownEnabled (e : Event) : (s.emit e).countdownEnabled = s.countdownEnabled := rfl
@[simp] theorem State.emit_currentSector (e : Event) : (s.emit e).currentSector = s.currentSector := rfl
@[simp] theorem State.emit_cycleCount (e : Event) : (s.emit e).cycleCount = s.cycleCount := rfl
@[simp] theorem State.emit_trace (e : Event) : (s.emit e).trace = s.trace ++ [e] := rfl
@[simp] theorem State.emit_memSize (e : Event) : (s.emit e).memSize = s.memSize := rfl
@[simp] theorem State.emit_flagStoreOps (e : Event) : (s.emit e).flagStoreOps = s.flagStoreOps := rfl

@[simp] theorem State.tick_regA : s.tick.regA = s.regA := rfl
@[simp] theorem State.tick_regL : s.tick.regL = s.regL := rfl
@[simp] theorem State.tick_regN : s.tick.regN = s.regN := rfl
@[simp] theorem State.tick_regI : s.tick.regI = s.regI := rfl
@[simp] theorem State.tick_regP : s.tick.regP = s.regP := rfl
@[simp] theorem State.tick_loopU : s.tick.loopU = s.loopU := rfl
@[simp] theorem State.tick_loopF : s.tick.loopF = s.loopF := rfl
@[simp] theorem State.tick_loopE : s.tick.loopE = s.loopE := rfl
@[simp] theorem State.tick_loopH : s.tick.loopH = s.loopH := rfl
@[simp] theorem State.tick_loopV : s.tick.loopV = s.loopV := rfl
@[simp] theorem State.tick_loopR : s.tick.loopR = s.loopR := rfl
@[simp] theorem State.tick_bulk : s.tick.bulk = s.bulk := rfl
@[simp] theorem State.tick_halted : s.tick.halted = s.halted := rfl
@[simp] theorem State.tick_error : s.tick.error = s.error := rfl
@[simp] theorem State.tick_d37cMode : s.tick.d37cMode = s.d37cMode := rfl
@[simp] theorem State.tick_discreteInA : s.tick.discreteInA = s.discreteInA := rfl
@[simp] theorem State.tick_discreteInB : s.tick.discreteInB = s.discreteInB := rfl
@[simp] theorem State.tick_discreteOutA : s.tick.discreteOutA = s.discreteOutA := rfl
@[simp] theorem State.tick_voltageOut : s.tick.voltageOut = s.voltageOut := rfl
@[simp] theorem State.tick_binaryOut : s.tick.binaryOut = s.binaryOut := rfl
@[simp] theorem State.tick_detector : s.tick.detector = s.detector := rfl
@[simp] theorem State.tick_fineCountdown : s.tick.fineCountdown = if s.countdownEnabled && decide (s.fineCountdown ≠ 0#24) then s.fineCountdown - 1#24 else s.fineCountdown := rfl
@[simp] theorem State.tick_countdownEnabled : s.tick.countdownEnabled = s.countdownEnabled := rfl
@[simp] theorem State.tick_currentSector : s.tick.currentSector = s.currentSector + 1 := rfl
@[simp] theorem State.tick_cycleCount : s.tick.cycleCount = s.cycleCount + 1 := rfl
@[simp] theorem State.tick_trace : s.tick.trace = s.trace := rfl
@[simp] theorem State.tick_memSize : s.tick.memSize = s.memSize := rfl
@[simp] theorem State.tick_flagStoreOps : s.tick.flagStoreOps = s.flagStoreOps := rfl

end Sys2Proof.Machine
end

