-- ==== Sys2Proof/Laws/Memory.lean ====
section
/-! SUPPORT. Bulk memory: reads after writes, and the canonical form kept; the channel mux: what a write changes. -/

namespace Sys2Proof.Machine

theorem Memory.read_erase (m : Memory) (a b : Nat) : (m.erase a).read b = if b = a then 0#24 else m.read b := by
  induction m with
  | nil => simp [Memory.erase, Memory.read]
  | cons x rest ih =>
    obtain ⟨c, v⟩ := x
    unfold Memory.erase at ih ⊢
    by_cases hc : c = a
    · subst hc
      by_cases hb : b = c <;> simp_all [Memory.read]
    · by_cases hb : b = c
      · subst hb; simp [Memory.read, hc]
      · simp_all [Memory.read]

theorem Memory.read_insert (m : Memory) (a b : Nat) (w : Word) (h : ∀ x ∈ m, x.1 ≠ a) :
    (m.insert a w).read b = if b = a then w else m.read b := by
  induction m with
  | nil => simp [Memory.insert, Memory.read]
  | cons x rest ih =>
    obtain ⟨c, v⟩ := x
    have hc : c ≠ a := h (c, v) (by simp)
    have hr : ∀ x ∈ rest, x.1 ≠ a := fun x hx => h x (by simp [hx])
    unfold Memory.insert
    split
    · simp [Memory.read]
    · by_cases hb : b = c
      · subst hb; simp [Memory.read, hc]
      · simp [Memory.read, hb, ih hr]

theorem Memory.mem_erase {m : Memory} {a : Nat} {x : Nat × Word} : x ∈ m.erase a ↔ x ∈ m ∧ x.1 ≠ a := by
  simp [Memory.erase]

theorem Memory.mem_insert {m : Memory} {a : Nat} {w : Word} {x : Nat × Word} :
    x ∈ m.insert a w ↔ x = (a, w) ∨ x ∈ m := by
  induction m with
  | nil => simp [Memory.insert]
  | cons y rest ih =>
    unfold Memory.insert
    split
    · simp
    · simp only [List.mem_cons, ih]; tauto

/-- The law of a write: the cell written reads as the word, every other cell as before. -/
theorem Memory.read_write (m : Memory) (a b : Nat) (w : Word) :
    (m.write a w).read b = if b = a then w else m.read b := by
  unfold Memory.write
  split
  · rename_i h; subst h; exact Memory.read_erase m a b
  · rw [Memory.read_insert _ _ _ _ (fun x hx => (Memory.mem_erase.mp hx).2), Memory.read_erase]
    split <;> rfl

/-- Every cell of a memory after a write is the one written or one of before. -/
theorem Memory.mem_write {m : Memory} {a : Nat} {w : Word} {x : Nat × Word} (h : x ∈ m.write a w) :
    x = (a, w) ∨ x ∈ m := by
  unfold Memory.write at h
  split at h
  · exact .inr (Memory.mem_erase.mp h).1
  · rcases Memory.mem_insert.mp h with h | h
    · exact .inl h
    · exact .inr (Memory.mem_erase.mp h).1

theorem Memory.pairwise_insert {m : Memory} {a : Nat} {w : Word} (hm : m.Pairwise (fun x y => x.1 < y.1))
    (ha : ∀ x ∈ m, x.1 ≠ a) : (m.insert a w).Pairwise (fun x y => x.1 < y.1) := by
  induction m with
  | nil => simp [Memory.insert]
  | cons y rest ih =>
    obtain ⟨hy, hrest⟩ := List.pairwise_cons.mp hm
    have hya : y.1 ≠ a := ha y (by simp)
    unfold Memory.insert
    split
    · rename_i hlt
      refine List.pairwise_cons.mpr ⟨fun x hx => ?_, hm⟩
      rcases List.mem_cons.mp hx with rfl | hx
      · exact hlt
      · exact lt_trans hlt (hy x hx)
    · rename_i hlt
      refine List.pairwise_cons.mpr ⟨fun x hx => ?_, ih hrest (fun x hx => ha x (by simp [hx]))⟩
      rcases Memory.mem_insert.mp hx with rfl | hx
      · exact lt_of_le_of_ne (not_lt.mp hlt) hya
      · exact hy x hx

/-- A write keeps the canonical form. -/
theorem Memory.wf_write {m : Memory} {a : Nat} {w : Word} (h : m.wf) : (m.write a w).wf := by
  obtain ⟨hs, hz⟩ := h
  have hse : (m.erase a).Pairwise (fun x y => x.1 < y.1) := hs.filter _
  unfold Memory.write
  split
  · exact ⟨hse, fun x hx => hz x (Memory.mem_erase.mp hx).1⟩
  · rename_i hw
    refine ⟨Memory.pairwise_insert hse fun x hx => (Memory.mem_erase.mp hx).2, fun x hx => ?_⟩
    rcases Memory.mem_insert.mp hx with rfl | hx
    · exact hw
    · exact hz x (Memory.mem_erase.mp hx).1

theorem wf_empty : Memory.wf [] := by simp [Memory.wf]

/-- Where an address names no storage, a write changes nothing. -/
theorem State.memWrite_nothing {s : State} {ch sec : Nat} (w : Word) (h : place s.memSize ch sec = .nothing) :
    s.memWrite ch sec w = s := by
  simp [State.memWrite, h, State.writePlace]

/-- What a read finds after a write, by storage words. -/
theorem State.readPlace_writePlace (s : State) (w : Word) (p q : Place) :
    (s.writePlace w p).readPlace q = if q = p ∧ p ≠ .nothing then w else s.readPlace q := by
  cases p <;> cases q <;>
    simp [State.writePlace, State.readPlace, Vector.getElem_set, Memory.read_write, Fin.ext_iff, eq_comm]

@[simp] theorem State.writePlace_regA (s : State) (w : Word) (p : Place) : (s.writePlace w p).regA = s.regA := by
  cases p <;> rfl

@[simp] theorem State.writePlace_regN (s : State) (w : Word) (p : Place) : (s.writePlace w p).regN = s.regN := by
  cases p <;> rfl

@[simp] theorem State.writePlace_regI (s : State) (w : Word) (p : Place) : (s.writePlace w p).regI = s.regI := by
  cases p <;> rfl

@[simp] theorem State.writePlace_regP (s : State) (w : Word) (p : Place) : (s.writePlace w p).regP = s.regP := by
  cases p <;> rfl

@[simp] theorem State.writePlace_halted (s : State) (w : Word) (p : Place) : (s.writePlace w p).halted = s.halted := by
  cases p <;> rfl

@[simp] theorem State.writePlace_error (s : State) (w : Word) (p : Place) : (s.writePlace w p).error = s.error := by
  cases p <;> rfl

@[simp] theorem State.writePlace_d37cMode (s : State) (w : Word) (p : Place) : (s.writePlace w p).d37cMode = s.d37cMode := by
  cases p <;> rfl

@[simp] theorem State.writePlace_discreteInA (s : State) (w : Word) (p : Place) : (s.writePlace w p).discreteInA = s.discreteInA := by
  cases p <;> rfl

@[simp] theorem State.writePlace_discreteInB (s : State) (w : Word) (p : Place) : (s.writePlace w p).discreteInB = s.discreteInB := by
  cases p <;> rfl

@[simp] theorem State.writePlace_discreteOutA (s : State) (w : Word) (p : Place) : (s.writePlace w p).discreteOutA = s.discreteOutA := by
  cases p <;> rfl

@[simp] theorem State.writePlace_voltageOut (s : State) (w : Word) (p : Place) : (s.writePlace w p).voltageOut = s.voltageOut := by
  cases p <;> rfl

@[simp] theorem State.writePlace_binaryOut (s : State) (w : Word) (p : Place) : (s.writePlace w p).binaryOut = s.binaryOut := by
  cases p <;> rfl

@[simp] theorem State.writePlace_detector (s : State) (w : Word) (p : Place) : (s.writePlace w p).detector = s.detector := by
  cases p <;> rfl

@[simp] theorem State.writePlace_fineCountdown (s : State) (w : Word) (p : Place) : (s.writePlace w p).fineCountdown = s.fineCountdown := by
  cases p <;> rfl

@[simp] theorem State.writePlace_countdownEnabled (s : State) (w : Word) (p : Place) : (s.writePlace w p).countdownEnabled = s.countdownEnabled := by
  cases p <;> rfl

@[simp] theorem State.writePlace_currentSector (s : State) (w : Word) (p : Place) : (s.writePlace w p).currentSector = s.currentSector := by
  cases p <;> rfl

@[simp] theorem State.writePlace_cycleCount (s : State) (w : Word) (p : Place) : (s.writePlace w p).cycleCount = s.cycleCount := by
  cases p <;> rfl

@[simp] theorem State.writePlace_trace (s : State) (w : Word) (p : Place) : (s.writePlace w p).trace = s.trace := by
  cases p <;> rfl

@[simp] theorem State.writePlace_memSize (s : State) (w : Word) (p : Place) : (s.writePlace w p).memSize = s.memSize := by
  cases p <;> rfl

@[simp] theorem State.writePlace_flagStoreOps (s : State) (w : Word) (p : Place) : (s.writePlace w p).flagStoreOps = s.flagStoreOps := by
  cases p <;> rfl

@[simp] theorem State.memWrite_regA (s : State) (ch sec : Nat) (w : Word) : (s.memWrite ch sec w).regA = s.regA :=
  State.writePlace_regA s w _

@[simp] theorem State.memWrite_regN (s : State) (ch sec : Nat) (w : Word) : (s.memWrite ch sec w).regN = s.regN :=
  State.writePlace_regN s w _

@[simp] theorem State.memWrite_regI (s : State) (ch sec : Nat) (w : Word) : (s.memWrite ch sec w).regI = s.regI :=
  State.writePlace_regI s w _

@[simp] theorem State.memWrite_regP (s : State) (ch sec : Nat) (w : Word) : (s.memWrite ch sec w).regP = s.regP :=
  State.writePlace_regP s w _

@[simp] theorem State.memWrite_halted (s : State) (ch sec : Nat) (w : Word) : (s.memWrite ch sec w).halted = s.halted :=
  State.writePlace_halted s w _

@[simp] theorem State.memWrite_error (s : State) (ch sec : Nat) (w : Word) : (s.memWrite ch sec w).error = s.error :=
  State.writePlace_error s w _

@[simp] theorem State.memWrite_d37cMode (s : State) (ch sec : Nat) (w : Word) : (s.memWrite ch sec w).d37cMode = s.d37cMode :=
  State.writePlace_d37cMode s w _

@[simp] theorem State.memWrite_discreteInA (s : State) (ch sec : Nat) (w : Word) : (s.memWrite ch sec w).discreteInA = s.discreteInA :=
  State.writePlace_discreteInA s w _

@[simp] theorem State.memWrite_discreteInB (s : State) (ch sec : Nat) (w : Word) : (s.memWrite ch sec w).discreteInB = s.discreteInB :=
  State.writePlace_discreteInB s w _

@[simp] theorem State.memWrite_discreteOutA (s : State) (ch sec : Nat) (w : Word) : (s.memWrite ch sec w).discreteOutA = s.discreteOutA :=
  State.writePlace_discreteOutA s w _

@[simp] theorem State.memWrite_voltageOut (s : State) (ch sec : Nat) (w : Word) : (s.memWrite ch sec w).voltageOut = s.voltageOut :=
  State.writePlace_voltageOut s w _

@[simp] theorem State.memWrite_binaryOut (s : State) (ch sec : Nat) (w : Word) : (s.memWrite ch sec w).binaryOut = s.binaryOut :=
  State.writePlace_binaryOut s w _

@[simp] theorem State.memWrite_detector (s : State) (ch sec : Nat) (w : Word) : (s.memWrite ch sec w).detector = s.detector :=
  State.writePlace_detector s w _

@[simp] theorem State.memWrite_fineCountdown (s : State) (ch sec : Nat) (w : Word) : (s.memWrite ch sec w).fineCountdown = s.fineCountdown :=
  State.writePlace_fineCountdown s w _

@[simp] theorem State.memWrite_countdownEnabled (s : State) (ch sec : Nat) (w : Word) : (s.memWrite ch sec w).countdownEnabled = s.countdownEnabled :=
  State.writePlace_countdownEnabled s w _

@[simp] theorem State.memWrite_currentSector (s : State) (ch sec : Nat) (w : Word) : (s.memWrite ch sec w).currentSector = s.currentSector :=
  State.writePlace_currentSector s w _

@[simp] theorem State.memWrite_cycleCount (s : State) (ch sec : Nat) (w : Word) : (s.memWrite ch sec w).cycleCount = s.cycleCount :=
  State.writePlace_cycleCount s w _

@[simp] theorem State.memWrite_trace (s : State) (ch sec : Nat) (w : Word) : (s.memWrite ch sec w).trace = s.trace :=
  State.writePlace_trace s w _

@[simp] theorem State.memWrite_memSize (s : State) (ch sec : Nat) (w : Word) : (s.memWrite ch sec w).memSize = s.memSize :=
  State.writePlace_memSize s w _

@[simp] theorem State.memWrite_flagStoreOps (s : State) (ch sec : Nat) (w : Word) : (s.memWrite ch sec w).flagStoreOps = s.flagStoreOps :=
  State.writePlace_flagStoreOps s w _

/-- What a read finds after a write (R74, R75): the word, at every address of the same storage word, and else what it found
before. -/
theorem State.memRead_memWrite (s : State) (ch sec ch' sec' : Nat) (w : Word) :
    (s.memWrite ch sec w).memRead ch' sec' =
      if place s.memSize ch' sec' = place s.memSize ch sec ∧ place s.memSize ch sec ≠ .nothing then w
      else s.memRead ch' sec' := by
  unfold State.memRead
  rw [State.memWrite_memSize]
  exact State.readPlace_writePlace s w _ _

/-- The bulk list after a write: one cell written, or as before. -/
theorem State.memWrite_bulk (s : State) (ch sec : Nat) (w : Word) :
    (s.memWrite ch sec w).bulk = s.bulk ∨
      ∃ a, place s.memSize ch sec = .bulk a ∧ (s.memWrite ch sec w).bulk = s.bulk.write a w := by
  unfold State.memWrite
  cases h : place s.memSize ch sec with
  | bulk a => exact .inr ⟨a, rfl, rfl⟩
  | _ => exact .inl rfl

/-- A bulk cell of the mux is a populated one (R38). -/
theorem place_bulk {size : MemSize} {ch sec a : Nat} (h : place size ch sec = .bulk a) :
    populated size ch sec = true ∧ a = ch * 128 + sec := by
  unfold place at h
  split_ifs at h with h1 h2 h3 h4 h5 h6 h7 h8
  exact ⟨h8, by simpa using h.symm⟩

/-- A memory write keeps the canonical form of bulk memory. -/
theorem State.memWrite_wf {s : State} (ch sec : Nat) (w : Word) (h : s.bulk.wf) : (s.memWrite ch sec w).bulk.wf := by
  rcases s.memWrite_bulk ch sec w with hb | ⟨a, _, hb⟩ <;> rw [hb]
  · exact h
  · exact Memory.wf_write h

end Sys2Proof.Machine
end

