-- ==== Sys2Proof/Laws/Sequencer.lean ====
section
/-! SUPPORT. What the flag store and the end of a step do, each said once. -/

namespace Sys2Proof.Machine

/-- The next-sector rule in numbers (R255). -/
theorem State.nextLocation_eq (s : State) (sp : NextSector) : s.nextLocation sp = s.sequenced sp := by
  have h1 := (chan s.regI).isLt
  have h2 := sp.isLt
  apply BitVec.eq_of_toNat_eq
  simp only [State.nextLocation, State.sequenced, loc, toNat_append_eq, BitVec.toNat_ofNat]
  omega

/-- A word time in numbers (R256, R257). -/
theorem State.tick_eq (s : State) (dest : Word) : (s.setI dest).tick = s.wordTimeLater dest := by
  have h := s.fineCountdown.isLt
  have hd : (if s.countdownEnabled && decide (s.fineCountdown ≠ 0#24) then s.fineCountdown - 1#24 else s.fineCountdown) =
      BitVec.ofNat 24 (if s.countdownEnabled = true then s.fineCountdown.toNat - 1 else s.fineCountdown.toNat) := by
    cases hc : s.countdownEnabled
    · simp
    · by_cases hz : s.fineCountdown = 0#24
      · simp [hz]
      · have hn : s.fineCountdown.toNat ≠ 0 := fun hn => hz (BitVec.eq_of_toNat_eq hn)
        apply BitVec.eq_of_toNat_eq
        simp [hz, BitVec.toNat_sub]
        omega
  have hs : s.currentSector + 1 = Fin.ofNat 128 (s.currentSector.val + 1) := by
    apply Fin.ext
    simp [Fin.val_add]
  simp only [State.tick, State.setI, State.wordTimeLater, State.mk.injEq, true_and, and_true]
  exact ⟨hd, hs⟩

/-- The flag-store condition as a proposition (R200). -/
theorem State.flagStoreRuns_iff (s : State) (op : Opcode) (flag : Bool) :
    s.flagStoreRuns op flag = true ↔ flag = true ∧ op ∈ s.flagStoreOps := by
  simp [State.flagStoreRuns]

/-- Everything that follows a main effect (R252). -/
theorem State.finishAt_eq (s : State) (op : Opcode) (flag : Bool) (sec : Sector) (dest : Word) :
    s.finishAt op flag sec dest = s.completed op flag sec dest := by
  simp only [State.finishAt, State.tick_eq, State.completed, State.flagStoreIf, State.flagStoreRuns_iff]

/-- The same for an instruction that does not branch (R252, R255). -/
theorem State.finish_eq (s : State) (op : Opcode) (flag : Bool) (sec : Sector) (sp : NextSector) :
    s.finish op flag sec sp = s.completed op flag sec (s.sequenced sp) := by
  rw [State.finish, State.finishAt_eq, State.nextLocation_eq]

/-- Everything the flag store can do: nothing, one event, or one memory write of A (R201). -/
theorem State.flagStore_cases (s : State) (sec : Sector) :
    (flagDest sec = .none ∧ s.flagStore sec = s) ∨
    (flagDest sec = .telemetry ∧ s.flagStore sec = s.emit .telemetry) ∨
    ∃ ch se, flagDest sec = .store ch se ∧ s.flagStore sec = s.memWrite ch se s.regA := by
  unfold State.flagStore
  cases h : flagDest sec with
  | none => exact .inl ⟨rfl, rfl⟩
  | telemetry => exact .inr (.inl ⟨rfl, rfl⟩)
  | store ch se => exact .inr (.inr ⟨ch, se, rfl, rfl⟩)

@[simp] theorem State.flagStore_regA (s : State) (sec : Sector) : (s.flagStore sec).regA = s.regA := by
  unfold State.flagStore; split <;> simp

@[simp] theorem State.flagStore_regN (s : State) (sec : Sector) : (s.flagStore sec).regN = s.regN := by
  unfold State.flagStore; split <;> simp

@[simp] theorem State.flagStore_regI (s : State) (sec : Sector) : (s.flagStore sec).regI = s.regI := by
  unfold State.flagStore; split <;> simp

@[simp] theorem State.flagStore_regP (s : State) (sec : Sector) : (s.flagStore sec).regP = s.regP := by
  unfold State.flagStore; split <;> simp

@[simp] theorem State.flagStore_halted (s : State) (sec : Sector) : (s.flagStore sec).halted = s.halted := by
  unfold State.flagStore; split <;> simp

@[simp] theorem State.flagStore_error (s : State) (sec : Sector) : (s.flagStore sec).error = s.error := by
  unfold State.flagStore; split <;> simp

@[simp] theorem State.flagStore_d37cMode (s : State) (sec : Sector) : (s.flagStore sec).d37cMode = s.d37cMode := by
  unfold State.flagStore; split <;> simp

@[simp] theorem State.flagStore_discreteInA (s : State) (sec : Sector) : (s.flagStore sec).discreteInA = s.discreteInA := by
  unfold State.flagStore; split <;> simp

@[simp] theorem State.flagStore_discreteInB (s : State) (sec : Sector) : (s.flagStore sec).discreteInB = s.discreteInB := by
  unfold State.flagStore; split <;> simp

@[simp] theorem State.flagStore_discreteOutA (s : State) (sec : Sector) : (s.flagStore sec).discreteOutA = s.discreteOutA := by
  unfold State.flagStore; split <;> simp

@[simp] theorem State.flagStore_voltageOut (s : State) (sec : Sector) : (s.flagStore sec).voltageOut = s.voltageOut := by
  unfold State.flagStore; split <;> simp

@[simp] theorem State.flagStore_binaryOut (s : State) (sec : Sector) : (s.flagStore sec).binaryOut = s.binaryOut := by
  unfold State.flagStore; split <;> simp

@[simp] theorem State.flagStore_detector (s : State) (sec : Sector) : (s.flagStore sec).detector = s.detector := by
  unfold State.flagStore; split <;> simp

@[simp] theorem State.flagStore_fineCountdown (s : State) (sec : Sector) : (s.flagStore sec).fineCountdown = s.fineCountdown := by
  unfold State.flagStore; split <;> simp

@[simp] theorem State.flagStore_countdownEnabled (s : State) (sec : Sector) : (s.flagStore sec).countdownEnabled = s.countdownEnabled := by
  unfold State.flagStore; split <;> simp

@[simp] theorem State.flagStore_currentSector (s : State) (sec : Sector) : (s.flagStore sec).currentSector = s.currentSector := by
  unfold State.flagStore; split <;> simp

@[simp] theorem State.flagStore_cycleCount (s : State) (sec : Sector) : (s.flagStore sec).cycleCount = s.cycleCount := by
  unfold State.flagStore; split <;> simp

@[simp] theorem State.flagStore_memSize (s : State) (sec : Sector) : (s.flagStore sec).memSize = s.memSize := by
  unfold State.flagStore; split <;> simp

@[simp] theorem State.flagStore_flagStoreOps (s : State) (sec : Sector) : (s.flagStore sec).flagStoreOps = s.flagStoreOps := by
  unfold State.flagStore; split <;> simp

/-- The flag store keeps the canonical form of bulk memory. -/
theorem State.flagStore_wf {s : State} (sec : Sector) (h : s.bulk.wf) : (s.flagStore sec).bulk.wf := by
  rcases s.flagStore_cases sec with ⟨_, e⟩ | ⟨_, e⟩ | ⟨ch, se, _, e⟩ <;> rw [e]
  · exact h
  · exact h
  · exact State.memWrite_wf ch se _ h

end Sys2Proof.Machine
end

