-- ==== Sys2Proof/Laws/Families.lean ====
section
/-! SUPPORT. What each operation shared by a family of instructions does, each said once, as a main effect that is completed
(R252). -/

namespace Sys2Proof.Machine

/-- The pair takes both results, and `error` only ever rises (R180, R186, R332). -/
theorem State.setPair_eq (s : State) (r : PairResult) :
    s.setPair r = { s with regA := r.a, regL := r.l, error := s.error || r.error } := by
  unfold State.setPair
  cases r.error <;> simp [State.setA, State.setL, State.signalError]

/-- An instruction that loads A from A and its operand (R150, R151). -/
theorem State.accumulate_eq (s : State) (f : Word → Word → Word) (op : Opcode) (flag : Bool) (sp : NextSector)
    (c : Channel) (sec : Sector) : s.accumulate f op flag sp c sec =
      State.completed { s with regA := f s.regA (s.operand c sec) } op flag sec (s.sequenced sp) :=
  State.finish_eq _ op flag sec sp

/-- An instruction of the multiplier and divider (R150, R180, R186). -/
theorem State.pairUp_eq (s : State) (r : PairResult) (op : Opcode) (flag : Bool) (sp : NextSector) (sec : Sector) :
    s.pairUp r op flag sp sec =
      State.completed { s with regA := r.a, regL := r.l, error := s.error || r.error } op flag sec (s.sequenced sp) := by
  rw [State.pairUp, State.setPair_eq, State.finish_eq]; rfl

/-- A shift (R220). -/
theorem State.shiftTo_eq (s : State) (w : Word) (sub : BitVec 4) (flag : Bool) (sp : NextSector) (n : Nat) :
    s.shiftTo w sub flag sp n =
      State.completed { s with regA := w } 0#4 flag (shiftSector sub n) (s.sequenced sp) :=
  State.finish_eq _ 0#4 flag _ sp

/-- A special instruction, after its main effect `e` (R290). -/
theorem State.special_eq (e : State) (sub : BitVec 6) (flag : Bool) (sp : NextSector) (b : Bool) :
    e.special sub flag sp b = State.completed e 8#4 flag (specialSector sub b) (e.sequenced sp) :=
  State.finish_eq e 8#4 flag _ sp

/-- A control transfer (R260 to R262). -/
theorem State.branch_eq (s : State) (op : Opcode) (cond flag : Bool) (sp : NextSector) (c : Channel) (sec : Sector) :
    s.branch op cond flag sp c sec =
      State.completed s op flag sec (if cond = true then loc c sec else s.sequenced sp) := by
  rw [State.branch, State.finishAt_eq, State.nextLocation_eq]

end Sys2Proof.Machine
end

