-- ==== Sys2Proof/Laws/Exec.lean ====
section
/-! SUPPORT. What every instruction does, in one equation: a main effect, completed (R252). -/

namespace Sys2Proof.Machine

/-- The accumulator pair and `error` after the multiplier or divider (R180, R186). -/
def State.withPair (s : State) (r : PairResult) : State :=
  { s with regA := r.a, regL := r.l, error := s.error || r.error }

/-- The main effect of an instruction: the line "apply the unit" of R252, before the flag store. -/
def mainEffect (s : State) : Instr → State
  | .scl _ _ c sec => { s with regA := zipLanes clamp12 s.regA (s.operand c sec) }
  | .tmi2 _ _ _ _ => s
  | .tze _ _ _ _ => s
  | .op3 _ _ _ _ => s
  | .smp _ _ c sec => s.withPair (mulReduced s.regA (s.operand c sec))
  | .mpy _ _ c sec => s.withPair (mulWords s.regA (s.operand c sec))
  | .tmi _ _ _ _ => s
  | .mpm _ _ c sec => s.withPair (mulMagnitudes s.regA (s.operand c sec))
  | .div _ _ c sec => s.withPair (divWords s.regA s.regL (s.operand c sec))
  | .cla _ _ c sec => { s with regA := s.operand c sec }
  | .tra _ _ _ _ => s
  | .sto _ _ c sec => s.memWrite c.toNat sec.toNat s.regA
  | .sad _ _ c sec => { s with regA := zipLanes laneAdd s.regA (s.operand c sec) }
  | .add _ _ c sec => { s with regA := smAdd s.regA (s.operand c sec) }
  | .ssu _ _ c sec => { s with regA := zipLanes laneSub s.regA (s.operand c sec) }
  | .sub _ _ c sec => { s with regA := smSub s.regA (s.operand c sec) }
  | .sal _ _ _ n => { s with regA := mapLanes (laneShl n) s.regA }
  | .als _ _ _ n => { s with regA := s.regA <<< n }
  | .sll _ _ _ n => { s with regA := pack (laneShl n (hi s.regA)) (lo s.regA) }
  | .srl _ _ _ n => { s with regA := pack (hi s.regA) (laneShl n (lo s.regA)) }
  | .alc _ _ _ n => { s with regA := rotl24 s.regA n }
  | .sar _ _ _ n => { s with regA := mapLanes (laneShr n) s.regA }
  | .ars _ _ _ n => { s with regA := s.regA >>> n }
  | .slr _ _ _ n => { s with regA := pack (laneShr n (hi s.regA)) (lo s.regA) }
  | .srr _ _ _ n => { s with regA := pack (hi s.regA) (laneShr n (lo s.regA)) }
  | .arc _ _ _ n => { s with regA := rotr24 s.regA n }
  | .boc _ _ _ _ => { s with binaryOut := s.binaryOut.set 2 (topBits s.regA) }
  | .boa _ _ _ _ => { s with binaryOut := s.binaryOut.set 0 (topBits s.regA) }
  | .bob _ _ _ _ => { s with binaryOut := s.binaryOut.set 1 (topBits s.regA) }
  | .rsd _ _ _ _ => { s with detector := false }
  | .hpr _ _ _ _ => { s with halted := true }
  | .doa _ _ _ _ => { s with discreteOutA := s.regA }
  | .voa _ _ _ _ => { s with voltageOut := s.voltageOut.set 0 (voltageOf s.regA) }
  | .vob _ _ _ _ => { s with voltageOut := s.voltageOut.set 1 (voltageOf s.regA) }
  | .voc _ _ _ _ => { s with voltageOut := s.voltageOut.set 2 (voltageOf s.regA) }
  | .ora _ _ _ _ => if s.d37cMode then s.setA (s.regA ||| s.regL) else s
  | .ana _ _ _ _ => { s with regA := s.regA &&& s.regL }
  | .mim _ _ _ _ => { s with regA := minusMagnitude s.regA }
  | .com _ _ _ _ => { s with regA := complement s.regA }
  | .dib _ _ _ _ => { s with regA := s.discreteInB }
  | .dia _ _ _ _ => { s with regA := s.discreteInA }
  | .hfc _ _ _ _ => { s with countdownEnabled := false }
  | .efc _ _ _ _ => { s with countdownEnabled := true }
  | .shnop _ _ _ _ _ => s
  | .coa _ _ _ _ => { s with trace := s.trace ++ [.char (s.regA.extractLsb' 0 4)] }
  | .lpr _ _ _ p => { s with regP := p }
  | .spnop _ _ _ _ _ => s

/-- A branch, with its target as `branchTarget` gives it (R260 to R262). -/
theorem State.branch_getD (s : State) (op : Opcode) (cond flag : Bool) (sp : NextSector) (c : Channel) (sec : Sector) :
    s.branch op cond flag sp c sec =
      State.completed s op flag sec ((if cond = true then some (loc c sec) else none).getD (s.sequenced sp)) := by
  rw [State.branch_eq]
  cases cond <;> rfl

/-- The equation of `exec`: the main effect, the flag store, the next location, one word time (R252). -/
theorem exec_eq (i : Instr) (s : State) : exec i s =
    .next (State.completed (mainEffect s i) i.opcode i.head.flag i.sector
      ((branchTarget s i).getD (s.sequenced i.head.sp))) := by
  cases i with
  | tra flag sp c x => simp only [exec, execTra, State.branch_getD]; rfl
  | tmi flag sp c x => simp only [exec, execTmi, State.branch_getD, branchTarget]; rfl
  | tmi2 flag sp c x => simp only [exec, execTmi2, State.branch_getD, branchTarget]; rfl
  | tze flag sp c x =>
    simp only [exec, execTze, State.branch_getD, branchTarget, State.accZero, mag_eq, decide_eq_true_eq]; rfl
  | sto flag sp c x => simp only [exec, execSto, State.finish_eq, State.storeOperand, State.sequenced, State.memWrite_regI]; rfl
  | op3 flag sp c x => simp only [exec, execOp3, State.finish_eq]; rfl
  | shnop flag sp c x y => simp only [exec, execShnop, State.finish_eq]; rfl
  | coa flag sp c x => simp only [exec, execCoa, State.finish_eq]; rfl
  | lpr flag sp c x => simp only [exec, execLpr, State.finish_eq]; rfl
  | spnop flag sp c x y => simp only [exec, execSpnop, State.special_eq]; rfl
  | ora flag sp c x =>
    simp only [exec, execOra, State.special_eq, mainEffect]
    split <;> rfl
  | scl flag sp c x => simp only [exec, execScl, State.accumulate_eq]; rfl
  | cla flag sp c x => simp only [exec, execCla, State.accumulate_eq]; rfl
  | sad flag sp c x => simp only [exec, execSad, State.accumulate_eq]; rfl
  | add flag sp c x => simp only [exec, execAdd, State.accumulate_eq]; rfl
  | ssu flag sp c x => simp only [exec, execSsu, State.accumulate_eq]; rfl
  | sub flag sp c x => simp only [exec, execSub, State.accumulate_eq]; rfl
  | smp flag sp c x => simp only [exec, execSmp, State.pairUp_eq]; rfl
  | mpy flag sp c x => simp only [exec, execMpy, State.pairUp_eq]; rfl
  | mpm flag sp c x => simp only [exec, execMpm, State.pairUp_eq]; rfl
  | div flag sp c x => simp only [exec, execDiv, State.pairUp_eq]; rfl
  | sal flag sp c x => simp only [exec, execSal, State.shiftTo_eq]; rfl
  | als flag sp c x => simp only [exec, execAls, State.shiftTo_eq]; rfl
  | sll flag sp c x => simp only [exec, execSll, State.shiftTo_eq]; rfl
  | srl flag sp c x => simp only [exec, execSrl, State.shiftTo_eq]; rfl
  | alc flag sp c x => simp only [exec, execAlc, State.shiftTo_eq]; rfl
  | sar flag sp c x => simp only [exec, execSar, State.shiftTo_eq]; rfl
  | ars flag sp c x => simp only [exec, execArs, State.shiftTo_eq]; rfl
  | slr flag sp c x => simp only [exec, execSlr, State.shiftTo_eq]; rfl
  | srr flag sp c x => simp only [exec, execSrr, State.shiftTo_eq]; rfl
  | arc flag sp c x => simp only [exec, execArc, State.shiftTo_eq]; rfl
  | boc flag sp c x => simp only [exec, execBoc, State.special_eq]; rfl
  | boa flag sp c x => simp only [exec, execBoa, State.special_eq]; rfl
  | bob flag sp c x => simp only [exec, execBob, State.special_eq]; rfl
  | rsd flag sp c x => simp only [exec, execRsd, State.special_eq]; rfl
  | hpr flag sp c x => simp only [exec, execHpr, State.special_eq]; rfl
  | doa flag sp c x => simp only [exec, execDoa, State.special_eq]; rfl
  | voa flag sp c x => simp only [exec, execVoa, State.special_eq]; rfl
  | vob flag sp c x => simp only [exec, execVob, State.special_eq]; rfl
  | voc flag sp c x => simp only [exec, execVoc, State.special_eq]; rfl
  | ana flag sp c x => simp only [exec, execAna, State.special_eq]; rfl
  | mim flag sp c x => simp only [exec, execMim, State.special_eq]; rfl
  | com flag sp c x => simp only [exec, execCom, State.special_eq]; rfl
  | dib flag sp c x => simp only [exec, execDib, State.special_eq]; rfl
  | dia flag sp c x => simp only [exec, execDia, State.special_eq]; rfl
  | hfc flag sp c x => simp only [exec, execHfc, State.special_eq]; rfl
  | efc flag sp c x => simp only [exec, execEfc, State.special_eq]; rfl

end Sys2Proof.Machine
end

