-- ==== Sys2Proof/Laws/PerInstr.lean ====
section
/-! SUPPORT. Per instruction: the word an instruction is encoded by has the instruction's fields (R101). -/

namespace Sys2Proof.Laws

/-- The fields of the word that encodes the instruction are the instruction's own, and its unused bits are 0. -/
def EncodedFields.Statement (i : Instr) : Prop :=
  ∀ w, encode i = some w →
    opField w = i.opcode ∧ flagField w = i.head.flag ∧ spField w = i.head.sp ∧ chan w = i.head.c ∧ sect w = i.sector ∧
      w.getLsbD 0 = false ∧ w.getLsbD 1 = false

theorem encodedFields_of_any (i : Instr) : EncodedFields.Statement i := by
  intro w hw
  unfold encode at hw
  split at hw
  · obtain rfl := Option.some.inj hw
    refine ⟨by simp, by simp, by simp, by simp, by simp, ?_, ?_⟩ <;> rw [getLsbD_encodeFields] <;> simp
  · cases hw

theorem EncodedFields.scl (flag sp c x) : EncodedFields.Statement (.scl flag sp c x) := encodedFields_of_any _

theorem EncodedFields.tmi2 (flag sp c x) : EncodedFields.Statement (.tmi2 flag sp c x) := encodedFields_of_any _

theorem EncodedFields.tze (flag sp c x) : EncodedFields.Statement (.tze flag sp c x) := encodedFields_of_any _

theorem EncodedFields.op3 (flag sp c x) : EncodedFields.Statement (.op3 flag sp c x) := encodedFields_of_any _

theorem EncodedFields.smp (flag sp c x) : EncodedFields.Statement (.smp flag sp c x) := encodedFields_of_any _

theorem EncodedFields.mpy (flag sp c x) : EncodedFields.Statement (.mpy flag sp c x) := encodedFields_of_any _

theorem EncodedFields.tmi (flag sp c x) : EncodedFields.Statement (.tmi flag sp c x) := encodedFields_of_any _

theorem EncodedFields.mpm (flag sp c x) : EncodedFields.Statement (.mpm flag sp c x) := encodedFields_of_any _

theorem EncodedFields.div (flag sp c x) : EncodedFields.Statement (.div flag sp c x) := encodedFields_of_any _

theorem EncodedFields.cla (flag sp c x) : EncodedFields.Statement (.cla flag sp c x) := encodedFields_of_any _

theorem EncodedFields.tra (flag sp c x) : EncodedFields.Statement (.tra flag sp c x) := encodedFields_of_any _

theorem EncodedFields.sto (flag sp c x) : EncodedFields.Statement (.sto flag sp c x) := encodedFields_of_any _

theorem EncodedFields.sad (flag sp c x) : EncodedFields.Statement (.sad flag sp c x) := encodedFields_of_any _

theorem EncodedFields.add (flag sp c x) : EncodedFields.Statement (.add flag sp c x) := encodedFields_of_any _

theorem EncodedFields.ssu (flag sp c x) : EncodedFields.Statement (.ssu flag sp c x) := encodedFields_of_any _

theorem EncodedFields.sub (flag sp c x) : EncodedFields.Statement (.sub flag sp c x) := encodedFields_of_any _

theorem EncodedFields.sal (flag sp c x) : EncodedFields.Statement (.sal flag sp c x) := encodedFields_of_any _

theorem EncodedFields.als (flag sp c x) : EncodedFields.Statement (.als flag sp c x) := encodedFields_of_any _

theorem EncodedFields.sll (flag sp c x) : EncodedFields.Statement (.sll flag sp c x) := encodedFields_of_any _

theorem EncodedFields.srl (flag sp c x) : EncodedFields.Statement (.srl flag sp c x) := encodedFields_of_any _

theorem EncodedFields.alc (flag sp c x) : EncodedFields.Statement (.alc flag sp c x) := encodedFields_of_any _

theorem EncodedFields.sar (flag sp c x) : EncodedFields.Statement (.sar flag sp c x) := encodedFields_of_any _

theorem EncodedFields.ars (flag sp c x) : EncodedFields.Statement (.ars flag sp c x) := encodedFields_of_any _

theorem EncodedFields.slr (flag sp c x) : EncodedFields.Statement (.slr flag sp c x) := encodedFields_of_any _

theorem EncodedFields.srr (flag sp c x) : EncodedFields.Statement (.srr flag sp c x) := encodedFields_of_any _

theorem EncodedFields.arc (flag sp c x) : EncodedFields.Statement (.arc flag sp c x) := encodedFields_of_any _

theorem EncodedFields.coa (flag sp c x) : EncodedFields.Statement (.coa flag sp c x) := encodedFields_of_any _

theorem EncodedFields.boc (flag sp c x) : EncodedFields.Statement (.boc flag sp c x) := encodedFields_of_any _

theorem EncodedFields.boa (flag sp c x) : EncodedFields.Statement (.boa flag sp c x) := encodedFields_of_any _

theorem EncodedFields.bob (flag sp c x) : EncodedFields.Statement (.bob flag sp c x) := encodedFields_of_any _

theorem EncodedFields.rsd (flag sp c x) : EncodedFields.Statement (.rsd flag sp c x) := encodedFields_of_any _

theorem EncodedFields.hpr (flag sp c x) : EncodedFields.Statement (.hpr flag sp c x) := encodedFields_of_any _

theorem EncodedFields.doa (flag sp c x) : EncodedFields.Statement (.doa flag sp c x) := encodedFields_of_any _

theorem EncodedFields.voa (flag sp c x) : EncodedFields.Statement (.voa flag sp c x) := encodedFields_of_any _

theorem EncodedFields.vob (flag sp c x) : EncodedFields.Statement (.vob flag sp c x) := encodedFields_of_any _

theorem EncodedFields.voc (flag sp c x) : EncodedFields.Statement (.voc flag sp c x) := encodedFields_of_any _

theorem EncodedFields.ora (flag sp c x) : EncodedFields.Statement (.ora flag sp c x) := encodedFields_of_any _

theorem EncodedFields.ana (flag sp c x) : EncodedFields.Statement (.ana flag sp c x) := encodedFields_of_any _

theorem EncodedFields.mim (flag sp c x) : EncodedFields.Statement (.mim flag sp c x) := encodedFields_of_any _

theorem EncodedFields.com (flag sp c x) : EncodedFields.Statement (.com flag sp c x) := encodedFields_of_any _

theorem EncodedFields.dib (flag sp c x) : EncodedFields.Statement (.dib flag sp c x) := encodedFields_of_any _

theorem EncodedFields.dia (flag sp c x) : EncodedFields.Statement (.dia flag sp c x) := encodedFields_of_any _

theorem EncodedFields.hfc (flag sp c x) : EncodedFields.Statement (.hfc flag sp c x) := encodedFields_of_any _

theorem EncodedFields.efc (flag sp c x) : EncodedFields.Statement (.efc flag sp c x) := encodedFields_of_any _

theorem EncodedFields.lpr (flag sp c x) : EncodedFields.Statement (.lpr flag sp c x) := encodedFields_of_any _

theorem EncodedFields.shnop (flag sp c x y) : EncodedFields.Statement (.shnop flag sp c x y) := encodedFields_of_any _

theorem EncodedFields.spnop (flag sp c x y) : EncodedFields.Statement (.spnop flag sp c x y) := encodedFields_of_any _

end Sys2Proof.Laws
end

