-- ==== Sys2Proof/Laws/Place.lean ====
section
/-! SUPPORT. The channel mux: which addresses name one storage word. -/

namespace Sys2Proof.Machine

/-- The storage word of a loop channel, by the loop's size (R36, R72). -/
theorem place_loopSize {ch n : Nat} (size : MemSize) (h : loopSize ch = some n) (sec sec' : Nat) :
    (place size ch sec = place size ch sec' ↔ sec % n = sec' % n) ∧ place size ch sec ≠ .nothing := by
  unfold loopSize at h
  split_ifs at h with h1 h2 h3 h4 h5 h6 h7 <;> obtain rfl := Option.some.inj h
  · subst h1; exact ⟨by simp [place, Fin.ext_iff], by simp [place]⟩
  · subst h2; exact ⟨by simp [place, Fin.ext_iff], by simp [place]⟩
  · subst h3; exact ⟨by simp [place, Fin.ext_iff], by simp [place]⟩
  · subst h4; exact ⟨by simp [place]; omega, by simp [place]⟩
  · subst h5; exact ⟨by simp [place]; omega, by simp [place]⟩
  · subst h6; exact ⟨by simp [place, Fin.ext_iff], by simp [place]⟩
  · subst h7; exact ⟨by simp [place, Fin.ext_iff], by simp [place]⟩

/-- The channel a storage word is reached by (R72, R73). -/
def Place.channel : Place → Nat
  | .loopF _ => 0o52
  | .loopH _ => 0o54
  | .loopE _ => 0o56
  | .loopU => 0o60
  | .regL => 0o64
  | .loopV _ => 0o70
  | .loopR _ => 0o72
  | .bulk a => a / 128
  | .nothing => 0

/-- A storage word has one channel. -/
theorem place_channel {size : MemSize} {ch sec : Nat} (h : place size ch sec ≠ .nothing) :
    (place size ch sec).channel = ch := by
  unfold place at h ⊢
  split_ifs at h ⊢ with h1 h2 h3 h4 h5 h6 h7 h8
  all_goals first | exact Eq.symm ‹_› | skip
  · simp only [populated, Bool.and_eq_true, decide_eq_true_eq] at h8
    simp only [Place.channel]; omega
  · exact absurd rfl h

/-- Off the loop channels, a storage word is a populated bulk cell (R38, R73). -/
theorem place_bulkChannel {ch : Nat} (size : MemSize) (h : loopSize ch = none) (sec : Nat) :
    place size ch sec = if populated size ch sec = true then .bulk (ch * 128 + sec) else .nothing := by
  unfold loopSize at h
  unfold place
  split_ifs at h with h1 h2 h3 h4 h5 h6 h7
  rw [if_neg h1, if_neg h2, if_neg h3, if_neg h4, if_neg h5, if_neg h6, if_neg h7]

/-- Two addresses name one storage word exactly as `SameWord` says (R73, R84). -/
theorem sameWord_iff (size : MemSize) (ch sec ch' sec' : Nat) :
    SameWord size ch sec ch' sec' ↔ place size ch' sec' = place size ch sec ∧ place size ch sec ≠ .nothing := by
  unfold SameWord
  constructor
  · rintro ⟨rfl, h⟩
    cases hl : loopSize ch with
    | some n =>
      rw [hl] at h
      exact ⟨((place_loopSize size hl _ _).1.mpr h).symm, (place_loopSize size hl sec sec').2⟩
    | none =>
      rw [hl] at h
      obtain ⟨rfl, hp⟩ := h
      exact ⟨rfl, by rw [place_bulkChannel size hl, if_pos hp]; simp⟩
  · rintro ⟨h, hn⟩
    have hc : ch = ch' := by rw [← place_channel hn, ← h, place_channel (h ▸ hn)]
    subst hc
    refine ⟨rfl, ?_⟩
    cases hl : loopSize ch with
    | some n => exact ((place_loopSize size hl _ _).1.mp h).symm
    | none =>
      rw [place_bulkChannel size hl sec', place_bulkChannel size hl sec] at h
      rw [place_bulkChannel size hl sec] at hn
      split_ifs at h hn with h1 h2 h2
      · simp only [Place.bulk.injEq] at h
        exact ⟨by omega, h2⟩
      · exact absurd rfl hn

end Sys2Proof.Machine
end

