-- ==== Sys2Proof/Tests/Slice0.lean ====
section
/-! SUPPORT. Tests. Expected values are those of spec/95_test_vectors.md (the vector's id in the name) and of the worked
encodings of R116, never the model's own answers. -/

namespace Sys2Proof.Tests

open Sys2Proof.Machine

/-- A machine in mode `m` with the instruction word `w` at (0, 0), the operand `x` at (0, 1), and A and L preset. -/
def machine (m : Bool) (w a l x : Word) : State :=
  ((((State.init m .d37c Config.flagStoreOps).memWrite 0 0 w).memWrite 0 1 x).setA a).setL l

/-- The state after one step. -/
def next (s : State) : Option State :=
  match step s with
  | .next t => some t
  | _ => none

/-- A and I after one step. -/
def accAndLocation (s : State) : Option (Word × Word) := (next s).map fun t => (t.regA, t.regI)

/-- A, L and `error` after one step. -/
def pair (s : State) : Option (Word × Word × Bool) := (next s).map fun t => (t.regA, t.regL, t.error)

/-! ### WellFormed refuses, each check -/

theorem test_wf_count_zero : wellFormed false (.sal false 0 0 0) = false := by decide
theorem test_wf_count_nine : wellFormed true (.arc false 0 0 9) = false := by decide
theorem test_wf_count_bounds : wellFormed false (.ars false 0 0 1) && wellFormed false (.ars false 0 0 8) = true := by decide
theorem test_wf_div_in_d17b : wellFormed false (.div false 0 0 0) = false := by decide
theorem test_wf_mpm_in_d37c : wellFormed true (.mpm false 0 0 0) = false := by decide
theorem test_wf_tze_in_d17b : wellFormed false (.tze false 0 0 0) = false := by decide
theorem test_wf_tmi2_in_d37c : wellFormed true (.tmi2 false 0 0 0) = false := by decide
theorem test_wf_alc_in_d17b : wellFormed false (.alc false 0 0 1) = false := by decide
theorem test_wf_srl_in_d37c : wellFormed true (.srl false 0 0 1) = false := by decide
theorem test_wf_arc_in_d17b : wellFormed false (.arc false 0 0 1) = false := by decide
theorem test_wf_srr_in_d37c : wellFormed true (.srr false 0 0 1) = false := by decide
theorem test_wf_ora_in_d17b : wellFormed false (.ora false 0 0 false) = false := by decide
theorem test_wf_shnop_sub_eight : wellFormed false (.shnop false 0 0 8 0) = false := by decide
theorem test_wf_coa : wellFormed false (.coa false 0 0 1) = false := by decide
theorem test_wf_lpr_three : wellFormed false (.lpr false 0 0 3) = false := by decide
theorem test_wf_spnop_listed : wellFormed false (.spnop false 0 0 0x09 false) = false := by decide
theorem test_wf_spnop_ora_by_mode :
    (wellFormed true (.spnop false 0 0 0x10 false), wellFormed false (.spnop false 0 0 0x10 false)) = (false, true) := by decide

/-! ### Decoding words written out from the spec's encodings: every constructor but COA, which has none -/

theorem test_decode_scl : ∀ m, decode m 0x180004#24 = .scl true 0 0 1 := by decide
theorem test_decode_tmi2 : decode false 0x229470#24 = .tmi2 false 5 0o12 0o34 := by decide
theorem test_decode_tze : decode true 0x208080#24 = .tze false 1 0 0o40 := by decide
theorem test_decode_op3 : ∀ m, decode m 0x329470#24 = .op3 false 5 0o12 0o34 := by decide
theorem test_decode_smp : ∀ m, decode m 0x400004#24 = .smp false 0 0 1 := by decide
theorem test_decode_mpy : ∀ m, decode m 0x580014#24 = .mpy true 0 0 5 := by decide
theorem test_decode_tmi : ∀ m, decode m 0x629470#24 = .tmi false 5 0o12 0o34 := by decide
theorem test_decode_mpm : decode false 0x700004#24 = .mpm false 0 0 1 := by decide
theorem test_decode_div : decode true 0x790014#24 = .div true 2 0 5 := by decide
theorem test_decode_cla : ∀ m, decode m 0x9068FC#24 = .cla false 0 0o64 0o77 := by decide
theorem test_decode_tra : ∀ m, decode m 0xA29470#24 = .tra false 5 0o12 0o34 := by decide
theorem test_decode_sto : ∀ m, decode m 0xB075FC#24 = .sto false 0 0o72 0o177 := by decide
theorem test_decode_sad : ∀ m, decode m 0xC9D404#24 = .sad true 3 0o52 1 := by decide
theorem test_decode_add : ∀ m, decode m 0xD801EC#24 = .add true 0 0 0o173 := by decide
theorem test_decode_ssu : ∀ m, decode m 0xE00004#24 = .ssu false 0 0 1 := by decide
theorem test_decode_sub : ∀ m, decode m 0xF1002C#24 = .sub false 2 0 0o13 := by decide
theorem test_decode_sal : ∀ m, decode m 0x020110#24 = .sal false 4 0 4 := by decide
theorem test_decode_als : ∀ m, decode m 0x008120#24 = .als false 1 0 8 := by decide
theorem test_decode_sll : ∀ m, decode m 0x008150#24 = .sll false 1 0 4 := by decide
theorem test_decode_srl : decode false 0x008170#24 = .srl false 1 0 4 := by decide
theorem test_decode_alc : decode true 0x008160#24 = .alc false 1 0 8 := by decide
theorem test_decode_sar : ∀ m, decode m 0x008184#24 = .sar false 1 0 1 := by decide
theorem test_decode_ars : ∀ m, decode m 0x0081A0#24 = .ars false 1 0 8 := by decide
theorem test_decode_slr : ∀ m, decode m 0x0081D0#24 = .slr false 1 0 4 := by decide
theorem test_decode_srr : decode false 0x0081F0#24 = .srr false 1 0 4 := by decide
theorem test_decode_arc : decode true 0x0081E4#24 = .arc false 1 0 1 := by decide
theorem test_decode_shnop : ∀ m, decode m 0x0080EC#24 = .shnop false 1 0 7 3 := by decide
theorem test_decode_boc : ∀ m, decode m 0x810008#24 = .boc false 2 0 false := by decide
theorem test_decode_boa : ∀ m, decode m 0x810020#24 = .boa false 2 0 false := by decide
theorem test_decode_bob : ∀ m, decode m 0x810028#24 = .bob false 2 0 false := by decide
theorem test_decode_rsd : ∀ m, decode m 0x800040#24 = .rsd false 0 0 false := by decide
theorem test_decode_hpr : ∀ m, decode m 0x830048#24 = .hpr false 6 0 false := by decide
theorem test_decode_doa : ∀ m, decode m 0x830058#24 = .doa false 6 0 false := by decide
theorem test_decode_voa : ∀ m, decode m 0x838060#24 = .voa false 7 0 false := by decide
theorem test_decode_vob : ∀ m, decode m 0x810068#24 = .vob false 2 0 false := by decide
theorem test_decode_voc : ∀ m, decode m 0x810070#24 = .voc false 2 0 false := by decide
theorem test_decode_ora : decode true 0x810080#24 = .ora false 2 0 false := by decide
theorem test_decode_ana : ∀ m, decode m 0x810088#24 = .ana false 2 0 false := by decide
theorem test_decode_mim : ∀ m, decode m 0x810090#24 = .mim false 2 0 false := by decide
theorem test_decode_com : ∀ m, decode m 0x828098#24 = .com false 5 0 false := by decide
theorem test_decode_dib : ∀ m, decode m 0x8100A0#24 = .dib false 2 0 false := by decide
theorem test_decode_dia : ∀ m, decode m 0x8000A8#24 = .dia false 0 0 false := by decide
theorem test_decode_hfc : ∀ m, decode m 0x8000C4#24 = .hfc false 0 0 true := by decide
theorem test_decode_efc : ∀ m, decode m 0x8080C8#24 = .efc false 1 0 false := by decide
theorem test_decode_lpr : ∀ m, decode m 0x8400F4#24 = .lpr false 8 0 5 := by decide
theorem test_decode_spnop : ∀ m, decode m 0x8101FC#24 = .spnop false 2 0 0x3F true := by decide
theorem test_decode_ora_d17b_is_spnop : decode false 0x810080#24 = .spnop false 2 0 0x10 false := by decide
theorem test_decode_unused_bits : decode true 0x910007#24 = .cla false 2 0 1 := by decide
theorem test_encode_cla : encode (.cla false 2 0 1) = some 0x910004#24 := by decide
theorem test_encode_alc : encode (.alc false 0 0 1) = some 0x000164#24 := by decide
theorem test_encode_sal_eight : encode (.sal false 1 0 8) = some 0x008100#24 := by decide
theorem test_encode_lpr : encode (.lpr false 8 0 5) = some 0x8400F4#24 := by decide
theorem test_encode_coa : encode (.coa false 0 0 1) = none := by decide
theorem test_table_word_too_wide : decodeTableWord 24 0x1000000 = none := by decide
theorem test_disassemble_cla : disassemble 0x910004#24 = "CLA 00,001" := by decide
theorem test_disassemble_hpr : disassemble 0x830048#24 = "SPEC 00,022" := by decide
theorem test_disassemble_flag : disassemble 0xD85404#24 = "ADD* 52,001" := by decide

/-! ### One step -/

theorem test_AR1_cla_minus_zero : ∀ m, accAndLocation (machine m 0x900004 0x000000 0x000000 0x800000) = some (0x800000, 0x000000) := by decide
theorem test_AR2_add_saturates : ∀ m, accAndLocation (machine m 0xD00004 0x7FFFFF 0x000000 0x000001) = some (0x7FFFFF, 0x000000) := by decide
theorem test_AR4_add_minus_zeros : ∀ m, accAndLocation (machine m 0xD00004 0x800000 0x000000 0x800000) = some (0x000000, 0x000000) := by decide
theorem test_AR7_sub_saturates : ∀ m, accAndLocation (machine m 0xF00004 0xFFFFFF 0x000000 0x000001) = some (0xFFFFFF, 0x000000) := by decide
theorem test_AR8_sub_changes_sign : ∀ m, accAndLocation (machine m 0xF00004 0x000002 0x000000 0x000005) = some (0x800003, 0x000000) := by decide
theorem test_AR11_sad_carry_lost : ∀ m, accAndLocation (machine m 0xC00004 0x000FFF 0x000000 0x000001) = some (0x000000, 0x000000) := by decide
theorem test_AR12_sad_sign_is_a_bit : ∀ m, accAndLocation (machine m 0xC00004 0x7FF000 0x000000 0x001000) = some (0x800000, 0x000000) := by decide
theorem test_AR14_ssu_borrow_lost : ∀ m, accAndLocation (machine m 0xE00004 0x000000 0x000000 0x000001) = some (0x000FFF, 0x000000) := by decide
theorem test_AR16_ssu : ∀ m, accAndLocation (machine m 0xE00004 0x005007 0x000000 0x002003) = some (0x003004, 0x000000) := by decide
theorem test_AR17_scl_both_lanes : ∀ m, accAndLocation (machine m 0x100004 0x064F9C 0x000000 0x032032) = some (0x032FCE, 0x000000) := by decide
theorem test_AR18_scl_most_negative : ∀ m, accAndLocation (machine m 0x100004 0x800800 0x000000 0x7FF7FF) = some (0x801801, 0x000000) := by decide
theorem test_MD1_mpy_largest : ∀ m, pair (machine m 0x500004 0x7FFFFF 0x000000 0x7FFFFF) = some (0x7FFFFE, 0x000001, false) := by decide
theorem test_MD3_mpy_zero_keeps_sign : ∀ m, pair (machine m 0x500004 0x000000 0x000000 0x800005) = some (0x800000, 0x000000, false) := by decide
theorem test_MD6_smp : ∀ m, pair (machine m 0x400004 0x00C000 0x000000 0x810000) = some (0x800000, 0x00000C, false) := by decide
theorem test_MD8_smp_drops_low_bits : ∀ m, pair (machine m 0x400004 0x00FFFF 0x000000 0x00FFFF) = some (0x000000, 0x000009, false) := by decide
theorem test_MD9_mpm : pair (machine false 0x700004 0x000006 0x000000 0x800007) = some (0x000000, 0x00002A, false) := by decide
theorem test_MD13_MD18_div_errors :
    pair (machine true 0x700004 0x000000 0x000064 0x800000) = some (0x000000, 0x000064, true) ∧
    pair (machine true 0x700004 0x000004 0x000000 0x000003) = some (0x7FFFFF, 0x000002, true) := by decide
theorem test_MD15_div_signs : pair (machine true 0x700004 0x800000 0x000003 0x000005) = some (0x800000, 0x800003, false) := by decide
theorem test_SH2_sal : ∀ m, accAndLocation (machine m 0x008104 0x801801 0x000000 0x000000) = some (0x002002, 0x000004) := by decide
theorem test_SH3_sal_eight : ∀ m, accAndLocation (machine m 0x008100 0x123456 0x000000 0x000000) = some (0x300600, 0x000004) := by decide
theorem test_SH5_als_sign : ∀ m, accAndLocation (machine m 0x008124 0x400000 0x000000 0x000000) = some (0x800000, 0x000004) := by decide
theorem test_SH7_sll : ∀ m, accAndLocation (machine m 0x008150 0x123456 0x000000 0x000000) = some (0x230456, 0x000004) := by decide
theorem test_SH8_srl : accAndLocation (machine false 0x008170 0x123456 0x000000 0x000000) = some (0x123560, 0x000004) := by decide
theorem test_SH10_alc : accAndLocation (machine true 0x008164 0x800001 0x000000 0x000000) = some (0x000003, 0x000004) := by decide
theorem test_SH11_alc_eight : accAndLocation (machine true 0x008160 0x123456 0x000000 0x000000) = some (0x345612, 0x000004) := by decide
theorem test_SH13_sar : ∀ m, accAndLocation (machine m 0x008184 0x800800 0x000000 0x000000) = some (0x400400, 0x000004) := by decide
theorem test_SH15_ars_sign : ∀ m, accAndLocation (machine m 0x0081A4 0x800000 0x000000 0x000000) = some (0x400000, 0x000004) := by decide
theorem test_SH17_slr : ∀ m, accAndLocation (machine m 0x0081D0 0x123456 0x000000 0x000000) = some (0x012456, 0x000004) := by decide
theorem test_SH18_srr : accAndLocation (machine false 0x0081F0 0x123456 0x000000 0x000000) = some (0x123045, 0x000004) := by decide
theorem test_SH20_arc : accAndLocation (machine true 0x0081E4 0x000001 0x000000 0x000000) = some (0x800000, 0x000004) := by decide
theorem test_SH21_arc_eight : accAndLocation (machine true 0x0081E0 0x123456 0x000000 0x000000) = some (0x561234, 0x000004) := by decide
theorem test_SH23_shnop : ∀ m, accAndLocation (machine m 0x0080EC 0x123456 0x000000 0x000000) = some (0x123456, 0x000004) := by decide
theorem test_SQ1_tra : ∀ m, accAndLocation (machine m 0xA29470 0x123456 0x000000 0x000000) = some (0x123456, 0x001470) := by decide
theorem test_SQ2_tmi_minus_zero : ∀ m, accAndLocation (machine m 0x629470 0x800000 0x000000 0x000000) = some (0x800000, 0x001470) := by decide
theorem test_SQ3_tmi_not_taken : ∀ m, accAndLocation (machine m 0x629470 0x000000 0x000000 0x000000) = some (0x000000, 0x000014) := by decide
theorem test_SQ6_tmi2_not_taken : accAndLocation (machine false 0x229470 0x7FFFFF 0x000000 0x000000) = some (0x7FFFFF, 0x000014) := by decide
theorem test_SQ5_tmi2_taken : accAndLocation (machine false 0x229470 0x800001 0x000000 0x000000) = some (0x800001, 0x001470) := by decide
theorem test_SQ7_tze_minus_zero : accAndLocation (machine true 0x229470 0x800000 0x000000 0x000000) = some (0x800000, 0x001470) := by decide
theorem test_SQ9_tze_not_taken : accAndLocation (machine true 0x229470 0x000001 0x000000 0x000000) = some (0x000001, 0x000014) := by decide
theorem test_SQ10_op3 : ∀ m, accAndLocation (machine m 0x329470 0x000005 0x000000 0x000000) = some (0x000005, 0x000014) := by decide
theorem test_SP1_ana : ∀ m, accAndLocation (machine m 0x810088 0x123456 0x0F0F0F 0x000000) = some (0x020406, 0x000008) := by decide
theorem test_SP2_ora : accAndLocation (machine true 0x810080 0x123456 0x0F0F0F 0x000000) = some (0x1F3F5F, 0x000008) := by decide
theorem test_SP3_ora_d17b : accAndLocation (machine false 0x810080 0x123456 0x0F0F0F 0x000000) = some (0x123456, 0x000008) := by decide
theorem test_SP4_mim : ∀ m, accAndLocation (machine m 0x810090 0x000005 0x000000 0x000000) = some (0x800005, 0x000008) := by decide
theorem test_SP5_com : ∀ m, accAndLocation (machine m 0x810098 0x800005 0x000000 0x000000) = some (0x000005, 0x000008) := by decide
theorem test_SP16_spnop : ∀ m, accAndLocation (machine m 0x8101FC 0x000007 0x000000 0x000000) = some (0x000007, 0x000008) := by decide
theorem test_LP8_cla_reads_L : ∀ m, accAndLocation (machine m 0x9068FC 0x000000 0x000123 0x000000) = some (0x000123, 0x000000) := by decide
theorem test_SP6_voa : (next (machine false 0x810060 0x123456 0 0)).map (fun t => t.voltageOut.toList) = some [36, 0, 0, 0] := by decide
theorem test_SP7_vob : (next (machine false 0x810068 0x800000 0 0)).map (fun t => t.voltageOut.toList) = some [0, 256, 0, 0] := by decide
theorem test_SP8_voc : (next (machine false 0x810070 0xFFFFFF 0 0)).map (fun t => t.voltageOut.toList) = some [0, 0, 511, 0] := by decide
theorem test_SP9_boa : (next (machine false 0x810020 0xC00000 0 0)).map (fun t => t.binaryOut.toList) = some [3, 0, 0, 0] := by decide
theorem test_SP10_bob : (next (machine false 0x810028 0x400000 0 0)).map (fun t => t.binaryOut.toList) = some [0, 1, 0, 0] := by decide
theorem test_SP11_boc_note : (next (machine false 0x810008 0xC00000 0 0)).map (fun t => t.binaryOut.toList) = some [0, 0, 3, 0] := by decide
theorem test_SP12_doa : (next (machine false 0x810058 0xABCDEF 0 0)).map (fun t => t.discreteOutA) = some 0xABCDEF := by decide
theorem test_SP13_lpr : (next (machine false 0x8100F0 0x000000 0 0)).map (fun t => t.regP) = some 4 := by decide
theorem test_SP20_hpr : (next (machine false 0x800048 0x000000 0 0)).map (fun t => (t.halted, t.cycleCount, t.currentSector)) = some (true, 1, 1) := by decide
theorem test_LP1_to_LP6_SQ12_sto_loops :
    (next (machine false 0xB05414 0x000009 0 0)).map (fun t => t.loopF.toList) = some [0, 9, 0, 0] ∧
    (next (machine false 0xB05844 0x000009 0 0)).map (fun t => t.loopH.toList) = some [0, 9, 0, 0, 0, 0, 0, 0, 0, 0, 0, 0, 0, 0, 0, 0] ∧
    (next (machine false 0xB05C34 0x000009 0 0)).map (fun t => t.loopE.toList) = some [0, 0, 0, 0, 0, 9, 0, 0] ∧
    (next (machine false 0xB07018 0x000009 0 0)).map (fun t => t.loopV.toList) = some [0, 0, 9, 0] ∧
    (next (machine false 0xB075FC 0x000009 0 0)).map (fun t => t.loopR.toList) = some [0, 0, 0, 9] ∧
    (next (machine false 0xB06814 0x000009 0 0)).map (fun t => t.regL) = some 9 ∧
    (next (machine false 0xB16000 0x000042 0 0)).map (fun t => (t.loopU, t.regI)) = some (0x42, 8) := by decide
theorem test_ME1_ME4_sto_bulk :
    (next (machine false 0xB0DBFC 0x000077 0 0)).map (fun t => t.memRead 45 127) = some 0x77 ∧
    (next (machine false 0xB0DE00 0x000077 0 0)).map (fun t => (t.memRead 47 0, t.bulk.length)) = some (0, 1) := by decide
theorem test_SP17_dia : (next { machine true 0x8000A8 0 0 0 with discreteInA := 0x123456 }).map (·.regA) = some 0x123456 := by
  decide
theorem test_SP18_dib : (next { machine true 0x8100A0 0 0 0 with discreteInB := 0x654321 }).map (·.regA) = some 0x654321 := by
  decide
theorem test_SP19_rsd : (next { machine true 0x800040 0 0 0 with detector := true }).map (·.detector) = some false := by
  decide
theorem test_SQ17_efc : (next { machine true 0x8080C8 0 0 0 with fineCountdown := 3 }).map
    (fun t => (t.countdownEnabled, t.fineCountdown)) = some (true, 2) := by decide
theorem test_SQ17_hfc : (next { machine true 0x8100C0 0 0 0 with fineCountdown := 2, countdownEnabled := true }).map
    (fun t => (t.countdownEnabled, t.fineCountdown)) = some (false, 2) := by decide
theorem test_SQ18_countdown_floor : (next { machine true 0 0 0 0 with countdownEnabled := true }).map
    (·.fineCountdown) = some 0 := by decide
theorem test_SQ11_channel_of_the_fetch : (next { (machine true 0 0 0 0x55).memWrite 3 7 0x948004 with regI := 0x61C }).map
    (fun t => (t.regA, t.regI)) = some (0x55, 0x624) := by decide
theorem test_SQ13_halted : let s := { machine true 0x900004 0 0 5 with halted := true }
    next s = some s ∧ s.stepStatus = .endOfRun := by decide
theorem test_SQ14_unpopulated_fetch : (next { machine true 0x900004 0 0 5 with regI := 0x5E00 }).map
    (fun t => (t.regA, t.regI, t.cycleCount)) = some (0, 0x5E00, 1) := by decide
theorem test_SQ15_fetch_from_a_loop : (next { (machine true 0 0 0 0x55).memWrite 0o52 2 0x918004 with regI := 0x5418 }).map
    (fun t => (t.regA, t.regI)) = some (0x55, 0x540C) := by decide
/-- R232's effect by hand: A & 0xF is 6 and Sp = 3 gives sector 3. -/
theorem test_coa : (match exec (.coa false 3 0 1) (machine true 0 0x123456 0 0) with
    | .next t => some (t.trace, t.regA, t.regI)
    | _ => none) = some ([.char 6], 0x123456, 0xC) := by decide

/-! ### The flag store: A = 5, the operand 3 at (0, s), D17B mode -/

/-- The machine of vectors FS1 to FS10. -/
def flagMachine (w : Word) (s : Nat) : State := (machine false w 5 0 0).memWrite 0 s 3

theorem test_FS1_to_FS5 :
    (next (flagMachine 0xD80004 1)).map (fun t => t.loopF.toList) = some [0, 8, 0, 0] ∧
    (next (flagMachine 0xD80008 2)).map (fun t => t.trace) = some [.telemetry] ∧
    (next (flagMachine 0xD8000C 3)).map (fun t => t.memRead 0o50 1) = some 8 ∧
    (next (flagMachine 0xD80010 4)).map (fun t => t.loopE.toList) = some [0, 0, 0, 0, 8, 0, 0, 0] ∧
    (next (flagMachine 0xD80014 5)).map (fun t => t.regL) = some 8 := by decide
theorem test_FS6_to_FS12 :
    (next (flagMachine 0xD80018 6)).map (fun t => t.memRead 0o54 6) = some 8 ∧
    (next (flagMachine 0xD8001C 7)).map (fun t => t.loopU) = some 8 ∧
    (next (flagMachine 0xD80038 14)).map (fun t => t.memRead 0o54 14) = some 8 ∧
    (next (flagMachine 0xD801EC 123)).map (fun t => t.memRead 0o50 0o171) = some 8 ∧
    (next (flagMachine 0xD80020 8)).map (fun t => (t.regA, t.trace)) = some (8, []) ∧
    (next { flagMachine 0xD8000C 3 with memSize := .d17b }).map
    (fun t => (t.regA, t.memRead 0o50 1)) = some (8, 0) := by decide
/-- FS14, and by R8 and R252: with opcode 1 put into FLAG_STORE_OPS the same word stores. -/
theorem test_FS14_scl_and_the_parameter :
    (next (machine false 0x180004 5 0 3)).map
    (fun t => (t.regA, t.loopF.toList)) = some (3, [0, 0, 0, 0]) ∧
    (next { machine false 0x180004 5 0 3 with flagStoreOps := [1] }).map
    (fun t => (t.regA, t.loopF.toList)) = some (3, [0, 3, 0, 0]) := by decide

/-! ### The host's operations -/

theorem test_LP9 : ((State.reset.hostWrite 0o52 1 0x1234567).hostRead 0o52 5) = 0x234567 := by decide
theorem test_LP10 : (State.reset.hostRead 100 0, State.reset.hostRead 0 200, State.reset.hostWrite 100 0 7 == State.reset,
    State.reset.hostWrite 0 200 7 == State.reset) = (0, 0, true, true) := by decide
theorem test_ME7_ME8 : (populated .d17b 22 127, populated .d17b 23 0) = (true, false) := by decide
theorem test_RS1_reset : let s := { (machine true 0 5 6 7) with halted := true, error := true, regI := 0x40, cycleCount := 9 }
    (s.resetOp.regA, s.resetOp.halted, s.resetOp.error, s.resetOp.memRead 0 1, s.resetOp.cycleCount) = (0, false, false, 7, 0) := by
  decide
theorem test_run_two_steps : (match run 2 State.reset with
    | .next (st, t) => some (st, t.cycleCount, t.regI)
    | _ => none) = some (.budgetExhausted, 2, 0) := by decide
theorem test_run_stops_when_halted : (match run 3 (machine true 0x800048 0 0 0) with
    | .next (st, t) => some (st, t.cycleCount)
    | _ => none) = some (.halted, 1) := by decide

/-- A word placed for the next step is the one it runs, from reset, from a halted state and where I names no storage. -/
theorem test_withFetchWord : (next (State.reset.withFetchWord 24 0x8100FC)).map (fun t => (t.regP, t.regI)) = some (7, 8) ∧
    (next (({ State.reset with halted := true, regI := 0x5E00 } : State).withFetchWord 24 0x8100FC)).map
      (fun t => (t.regP, t.regI)) = some (7, 8) := by decide

/-! ### Witnesses: states and operands that meet the hypotheses of the statements -/

theorem test_witness_wellFormed : wellFormed true (.div true 15 63 127) = true ∧ wellFormed false (.lpr true 1 2 4) = true := by
  decide
theorem test_witness_running_step : ∃ t, State.reset.halted = false ∧ step State.reset = .next t := ⟨_, by decide, rfl⟩
theorem test_witness_unpopulated_location : let s := { State.reset with regI := loc 47 0 }
    s.halted = false ∧ loopSize (chan s.regI).toNat = none ∧ populated s.memSize (chan s.regI).toNat (sect s.regI).toNat = false := by
  decide
theorem test_witness_halted : ({ State.reset with halted := true } : State).halted = true := rfl
theorem test_witness_branch_taken : branchTarget { State.reset with regA := 0x800000 } (.tmi false 0 3 9) = some (loc 3 9) ∧
    branchTarget State.reset (.tmi false 0 3 9) = none := by decide
theorem test_witness_invariant : ({ State.reset with regI := loc 3 9, bulk := [(1, 5)] } : State).Inv :=
  ⟨by decide, fun x hx => ⟨0, 1, by decide, by simp_all⟩, by decide⟩
theorem test_witness_loop_aliasing : loopSize 0o54 = some 16 ∧ 15 < 16 ∧ loopSize 0o60 = some 1 ∧ 0 < 1 := by decide
theorem test_witness_same_word : SameWord .d37c 0o54 1 0o54 17 ∧ SameWord .d17b 22 127 22 127 ∧ ¬ SameWord .d37c 47 0 47 0 := by
  refine ⟨⟨rfl, show 1 % 16 = 17 % 16 from rfl⟩, ⟨rfl, show 127 = 127 ∧ populated .d17b 22 127 = true by decide⟩, fun h => ?_⟩
  have h2 := h.2
  simp [loopSize, populated, Config.bulkChannels] at h2
theorem test_witness_host_arguments : 64 ≤ 64 ∧ 128 ≤ 128 ∧ loopSize 0o52 = some 4 ∧ loopSize 0 = none := by decide
theorem test_witness_unpopulated_cell : loopSize 23 = none ∧ populated .d17b 23 0 = false ∧ populated .d37c 47 0 = false := by
  decide
theorem test_witness_stored_word : ∃ t, State.reset.halted = false ∧
    SameWord State.reset.memSize (chan State.reset.regI).toNat (15#4).toNat (chan State.reset.regI).toNat (15#4).toNat ∧
    exec (.sto false 15 (chan State.reset.regI) (0#3 ++ 15#4)) State.reset = .next t :=
  ⟨_, by decide, ⟨rfl, show 15 = 15 ∧ populated .d37c 0 15 = true by decide⟩, rfl⟩
theorem test_witness_signed_range : (-(2 ^ 23 - 1) : Int) ≤ -8388607 ∧ (-8388607 : Int) ≤ 2 ^ 23 - 1 := by decide
theorem test_witness_add_overflow : toSigned 0x7FFFFF#24 + toSigned 0x000001#24 > 2 ^ 23 - 1 ∧
    toSigned 0xFFFFFF#24 + toSigned 0x800001#24 < -(2 ^ 23 - 1) := by decide
theorem test_witness_sub_overflow : toSigned 0x7FFFFF#24 - toSigned 0x800001#24 > 2 ^ 23 - 1 ∧
    toSigned 0xFFFFFF#24 - toSigned 0x000001#24 < -(2 ^ 23 - 1) := by decide
theorem test_witness_same_integer : toSigned 0x800000#24 = toSigned 0x000000#24 := by decide
theorem test_witness_zero_sum : toSigned (smAdd 0x800000#24 0x800000#24) = 0 ∧ toSigned (smSub 5#24 5#24) = 0 ∧ (5#24 : Word) ≠ 0x800000#24 := by
  decide
theorem test_witness_divisor : mag 0x800003#24 ≠ 0 ∧ (divWords 0x800001#24 7#24 0x800003#24).error = false ∧ mag 0x800000#24 = 0 := by
  decide
theorem test_witness_opcodes : opField 0x100000#24 = 1#4 ∧ opField 0x229470#24 = 2#4 ∧ opField 0x329470#24 = 3#4 ∧
    opField 0x400004#24 = 4#4 ∧ opField 0x500004#24 = 5#4 ∧ opField 0x629470#24 = 6#4 ∧ opField 0x700004#24 = 7#4 ∧
    opField 0x900004#24 = 9#4 ∧ opField 0xA29470#24 = 10#4 ∧ opField 0xB16000#24 = 11#4 := by decide
theorem test_witness_more_opcodes : opField 0xC00004#24 = 12#4 ∧ opField 0xD00004#24 = 13#4 ∧ opField 0xE00004#24 = 14#4 ∧
    opField 0xF00004#24 = 15#4 := by decide
theorem test_witness_lpr_words : opField 0x8100F0#24 = 8#4 ∧ specialSub (sect 0x8100F0#24) = 0x1E#6 ∧
    opField 0x8100FC#24 = 8#4 ∧ specialSub (sect 0x8100FC#24) = 0x1F#6 := by decide
theorem test_witness_noop_words : opField 0x0080EC#24 = 0#4 ∧ (sect 0x0080EC#24).toNat < 64 ∧ opField 0x810000#24 = 8#4 ∧
    (specialSub (sect 0x810000#24)).toNat = 0 ∧ opField 0x8101FC#24 = 8#4 ∧ 0x20 ≤ (specialSub (sect 0x8101FC#24)).toNat := by decide
theorem test_witness_noop_bounds : (specialSub (sect 0x800100#24)).toNat = 0x20 ∧ (specialSub (sect 0x8000E8#24)).toNat = 0x1D ∧
    (sect 0x0000FC#24).toNat = 63 := by decide
theorem test_witness_flag_codes : ∀ k : Fin 8, ∃ sec : Sector, sec.toNat % 8 = k.val :=
  fun k => ⟨BitVec.ofNat 7 k.val, by revert k; decide⟩
theorem test_witness_counts : (1 ≤ 1 ∧ 1 ≤ 8) ∧ 1 ≤ 8 ∧ 8 ≤ 8 := by decide
theorem test_witness_default_ops : State.reset.flagStoreOps = Config.flagStoreOps := rfl
theorem test_witness_flag_word : ∃ t, exec (decode true (0xD80004#24 &&& 0xF7FFFF#24)) State.reset = .next t := ⟨_, rfl⟩
theorem test_witness_error_set : setsError State.reset (.div false 0 0 1) ∧
    ∃ t, exec (.div false 0 0 1) State.reset = .next t := ⟨by simp [setsError, State.operand, State.memRead, place, populated,
      isLoop, State.readPlace, Memory.read, State.reset, State.init, Config.memSize, Config.bulkChannels, MemSize.words, mag], _, rfl⟩
theorem test_witness_hpr_and_lpr : ∃ t u, exec (.hpr false 0 0 false) State.reset = .next t ∧ t.halted ≠ State.reset.halted ∧
    exec (.lpr false 0 0 4) State.reset = .next u ∧ u.regP ≠ State.reset.regP := ⟨_, _, rfl, by decide, rfl, by decide⟩
/-- A DIV in which mag(A) = mag(M) - 1, the last that does not overflow. -/
theorem test_witness_division_identity : let s := machine true 0 6 0 7
    mag (s.operand 0 1) ≠ 0 ∧ s.error = false ∧ ∃ t, exec (.div false 0 0 1) s = .next t ∧ t.error = false :=
  ⟨by decide, by decide, _, rfl, by decide⟩
/-- MPY of 6 by 7, the two exchanged, and a state that holds the product with the divisor 7. -/
theorem test_witness_multiply_laws : let s := machine true 0 6 0 7
    let u := machine true 0 7 0 6
    ∃ t v, exec (.mpy false 0 0 1) s = .next t ∧ u.regA = s.operand 0 1 ∧ u.operand 0 1 = s.regA ∧
      exec (.mpy false 0 0 1) u = .next v ∧ (machine true 0 0 42 7).regA = t.regA ∧ (machine true 0 0 42 7).regL = t.regL ∧
      (machine true 0 0 42 7).operand 0 1 = s.operand 0 1 ∧ mag (s.operand 0 1) ≠ 0 :=
  ⟨_, _, rfl, by decide, by decide, rfl, by decide, by decide, by decide, by decide⟩
theorem test_witness_other_multiplies : ∃ t u, exec (.mpm false 0 0 1) State.reset = .next t ∧
    exec (.smp false 0 0 1) State.reset = .next u := ⟨_, _, rfl, rfl⟩
theorem test_witness_add_and_sub : ∃ t u, exec (.add true 0 0 1) State.reset = .next t ∧
    exec (.sub true 0 0 1) State.reset = .next u := ⟨_, _, rfl, rfl⟩
theorem test_witness_branch_steps : ∃ t u, exec (.tmi false 0 3 9) { State.reset with regA := 0x800000 } = .next t ∧
    exec (.tmi false 0 3 9) State.reset = .next u := ⟨_, _, rfl, rfl⟩
theorem test_witness_invariant_step : ∃ t, step { State.reset with regI := loc 3 9, bulk := [(1, 5)] } = .next t := ⟨_, rfl⟩
theorem test_witness_ora_word : opField 0x800084#24 = 8#4 ∧ specialSub (sect 0x800084#24) = 0x10#6 := by decide
theorem test_witness_same_to_programs : SameToPrograms State.reset { State.reset with regN := 1, regP := 5, error := true } := by
  constructor <;> rfl
theorem test_witness_d17b : (State.init false .d17b []).d37cMode = false ∧ (State.init false .d17b []).error = false := ⟨rfl, rfl⟩

end Sys2Proof.Tests
end

