-- ==== Sys2Proof/Proofs/MemoryRead.lean ====
section
/-! PROOF. The channel mux of a memory read (R74). -/

namespace Sys2Proof.Proofs

open Sys2Proof.Machine

/-- The word of a loop at `sec` modulo its size (R73): the mux's index, of type `Fin n`, is never out of range, so the
default of `[_]!` is never what is read. -/
theorem loop_getElem_ofNat {n : Nat} [NeZero n] (loop : Vector Word n) (sec : Nat) :
    loop[Fin.ofNat n sec] = loop[sec % n]! :=
  (getElem!_pos loop (sec % n) (Nat.mod_lt sec (NeZero.pos n))).symm

/-- Settles O14: each branch of the mux names one storage word, and that word is what is read. -/
theorem memReadIsTheChannelMux : Obligations.MemReadIsTheChannelMux := by
  intro s ch sec
  refine ⟨rfl, ?_⟩
  unfold State.memRead place
  split_ifs
  · exact loop_getElem_ofNat s.loopF sec
  · exact loop_getElem_ofNat s.loopH sec
  · exact loop_getElem_ofNat s.loopE sec
  · show s.readPlace .loopU = s.loopU
    rfl
  · show s.readPlace .regL = s.regL
    rfl
  · exact loop_getElem_ofNat s.loopV sec
  · exact loop_getElem_ofNat s.loopR sec
  · show s.readPlace (.bulk (ch * 128 + sec)) = s.bulk.read (ch * 128 + sec)
    rfl
  · show s.readPlace .nothing = 0#24
    rfl

end Sys2Proof.Proofs
end

