-- ==== Sys2Proof/Proofs/Encoding.lean ====
section
/-! PROOF. The fields of an instruction word and of a location in numbers (R15, R101), and the words whose decoding the
mode bit changes (R114). -/

namespace Sys2Proof.Proofs

/-! ### Each field in numbers (R101) -/

theorem toNat_opField (w : Word) : (opField w).toNat = w.toNat / 2 ^ 20 := by
  have hw := w.isLt
  simp only [opField, BitVec.extractLsb'_toNat, Nat.shiftRight_eq_div_pow]
  omega

theorem flagField_eq (w : Word) : flagField w = decide (w.toNat / 2 ^ 19 % 2 = 1) := by
  rw [flagField, BitVec.getLsbD, Nat.testBit_eq_decide_div_mod_eq]

theorem toNat_spField (w : Word) : (spField w).toNat = w.toNat / 2 ^ 15 % 2 ^ 4 := by
  rw [spField, BitVec.extractLsb'_toNat, Nat.shiftRight_eq_div_pow]

theorem toNat_chan (w : Word) : (chan w).toNat = w.toNat / 2 ^ 9 % 2 ^ 6 := by
  rw [chan, BitVec.extractLsb'_toNat, Nat.shiftRight_eq_div_pow]

theorem toNat_sect (w : Word) : (sect w).toNat = w.toNat / 2 ^ 2 % 2 ^ 7 := by
  rw [sect, BitVec.extractLsb'_toNat, Nat.shiftRight_eq_div_pow]

/-- FLAG as the number 0 or 1 that it adds to the word. -/
theorem toNat_flagField (w : Word) : (flagField w).toNat = w.toNat / 2 ^ 19 % 2 := by
  rw [flagField_eq]
  rcases Nat.mod_two_eq_zero_or_one (w.toNat / 2 ^ 19) with h | h <;> rw [h] <;> rfl

/-- The fields lie side by side and cover the word, so it is their weighted sum and its two unused bits. -/
theorem toNat_word_eq_fields (w : Word) :
    w.toNat = (opField w).toNat * 2 ^ 20 + (flagField w).toNat * 2 ^ 19 + (spField w).toNat * 2 ^ 15
      + (chan w).toNat * 2 ^ 9 + (sect w).toNat * 2 ^ 2 + w.toNat % 4 := by
  rw [toNat_opField, toNat_flagField, toNat_spField, toNat_chan, toNat_sect]
  omega

/-! ### Locations (R15) -/

theorem toNat_loc (ch : Channel) (sec : Sector) : (loc ch sec).toNat = ch.toNat * 2 ^ 9 + sec.toNat * 2 ^ 2 := by
  rw [loc, toNat_append_eq, toNat_append_eq, toNat_append_eq]
  simp only [BitVec.toNat_ofNat]
  omega

/-- The mask of an operand address has exactly the bits of C and S. -/
theorem getLsbD_addressMask : ∀ j < 24, (0x7FFC#24).getLsbD j = (decide (2 ≤ j) && decide (j < 15)) := by decide

theorem loc_chan_sect (w : Word) : loc (chan w) (sect w) = w &&& 0x7FFC#24 := by
  apply BitVec.eq_of_getLsbD_eq
  intro j hj
  rw [getLsbD_loc, BitVec.getLsbD_and, getLsbD_addressMask j hj]
  simp only [chan, sect, BitVec.getLsbD_extractLsb']
  by_cases h2 : j < 2
  · simp [h2]
  by_cases h9 : j < 9
  · simp [h2, h9, show j - 2 < 7 by omega, show 2 + (j - 2) = j by omega, show 2 ≤ j by omega, show j < 15 by omega]
  by_cases h15 : j < 15
  · simp [h2, h9, h15, show j - 9 < 6 by omega, show 9 + (j - 9) = j by omega, show 2 ≤ j by omega]
  · simp [h2, h9, h15]

/-- Settles O1: every field is a shifted and masked part of the word, and `loc` puts C and S where the word has them. -/
theorem wordIsItsFields : Obligations.WordIsItsFields :=
  ⟨fun ch sec => ⟨toNat_loc ch sec, chan_loc ch sec, sect_loc ch sec⟩,
    fun w => ⟨toNat_opField w, flagField_eq w, toNat_spField w, toNat_chan w, toNat_sect w, toNat_word_eq_fields w,
      loc_chan_sect w⟩⟩

/-! ### What the mode bit changes (R114)

Where the mode bit matters the two instructions are of different constructors; everywhere else `decode` does not read it. -/

/-- R109: no shift sub-op but 0x0B and 0x0F reads the mode bit. -/
theorem decodeShift_mode_eq {sec : Sector} (hb : shiftSub sec ≠ 0x0B#4) (hf : shiftSub sec ≠ 0x0F#4)
    (flag : Bool) (sp : NextSector) (c : Channel) : decodeShift false flag sp c sec = decodeShift true flag sp c sec := by
  unfold decodeShift
  split
  case h_4 h => exact absurd h hb
  case h_8 h => exact absurd h hf
  all_goals rfl

theorem decodeShift_mode_ne_iff (flag : Bool) (sp : NextSector) (c : Channel) (sec : Sector) :
    decodeShift false flag sp c sec ≠ decodeShift true flag sp c sec ↔
      shiftSub sec = 0x0B#4 ∨ shiftSub sec = 0x0F#4 := by
  constructor
  · intro hne
    by_contra! h
    obtain ⟨hb, hf⟩ := h
    exact hne (decodeShift_mode_eq hb hf flag sp c)
  · rintro (h | h) <;> simp [decodeShift, h]

/-- R110: no special sub-op but 0x10 reads the mode bit. -/
theorem decodeSpecial_mode_eq {sec : Sector} (hora : specialSub sec ≠ 0x10#6)
    (flag : Bool) (sp : NextSector) (c : Channel) :
    decodeSpecial false flag sp c sec = decodeSpecial true flag sp c sec := by
  unfold decodeSpecial
  split
  case h_10 h => exact absurd h hora
  all_goals rfl

theorem decodeSpecial_mode_ne_iff (flag : Bool) (sp : NextSector) (c : Channel) (sec : Sector) :
    decodeSpecial false flag sp c sec ≠ decodeSpecial true flag sp c sec ↔ specialSub sec = 0x10#6 := by
  constructor
  · intro hne
    by_contra h
    exact hne (decodeSpecial_mode_eq h flag sp c)
  · intro h
    simp [decodeSpecial, h]

theorem decode_of_shift {w : Word} (h : opField w = 0#4) (m : Bool) :
    decode m w = decodeShift m (flagField w) (spField w) (chan w) (sect w) := by
  simp [decode, h]

theorem decode_of_special {w : Word} (h : opField w = 8#4) (m : Bool) :
    decode m w = decodeSpecial m (flagField w) (spField w) (chan w) (sect w) := by
  simp [decode, h]

/-- R106: opcode 2 is TMI2 in D17B mode and TZE in D37C mode. -/
theorem decode_mode_ne_of_opcode_two {w : Word} (h : opField w = 2#4) : decode false w ≠ decode true w := by
  simp [decode, h]

/-- R107: opcode 7 is MPM in D17B mode and DIV in D37C mode. -/
theorem decode_mode_ne_of_opcode_seven {w : Word} (h : opField w = 7#4) : decode false w ≠ decode true w := by
  simp [decode, h]

/-- R105: outside the two sub-op families, no opcode but 2 and 7 reads the mode bit. -/
theorem decode_mode_eq {w : Word} (h0 : opField w ≠ 0#4) (h2 : opField w ≠ 2#4) (h7 : opField w ≠ 7#4)
    (h8 : opField w ≠ 8#4) : decode false w = decode true w := by
  unfold decode
  split
  case h_1 h => exact absurd h h0
  case h_3 h => exact absurd h h2
  case h_8 h => exact absurd h h7
  case h_9 h => exact absurd h h8
  all_goals rfl

/-- Settles O5, by the opcode: the two sub-op families, the two overloaded opcodes, and the rest. -/
theorem modeChangesExactlyTheOverloads : Obligations.ModeChangesExactlyTheOverloads := by
  intro w
  by_cases h0 : opField w = 0#4
  · rw [decode_of_shift h0, decode_of_shift h0, decodeShift_mode_ne_iff]
    simp [h0]
  by_cases h8 : opField w = 8#4
  · rw [decode_of_special h8, decode_of_special h8, decodeSpecial_mode_ne_iff]
    simp [h8]
  by_cases h2 : opField w = 2#4
  · exact iff_of_true (decode_mode_ne_of_opcode_two h2) (.inl h2)
  by_cases h7 : opField w = 7#4
  · exact iff_of_true (decode_mode_ne_of_opcode_seven h7) (.inr (.inl h7))
  · simp [decode_mode_eq h0 h2 h7 h8, h0, h2, h7, h8]

end Sys2Proof.Proofs
end

