-- ==== Sys2Proof/Proofs/Arithmetic.lean ====
section
/-! PROOF. The signed integer of a word and back (R140, R141), the saturating sum and difference (R142 to R144, R153,
R154), and the split sum and difference (R148, R155, R156). -/

namespace Sys2Proof.Proofs

open Sys2Proof.Machine

/-! ### Words and integers (R140, R141) -/

theorem toSigned_of_sign {w : Word} (h : sign w = true) : toSigned w = -(mag w : Int) := by
  rw [toSigned, if_pos h]

theorem toSigned_of_not_sign {w : Word} (h : sign w = false) : toSigned w = (mag w : Int) := by
  rw [toSigned, h]; rfl

/-- R140 in numbers: bit 23 is the sign, and a word without it is its own magnitude. -/
theorem toSigned_eq (w : Word) :
    toSigned w = if w.toNat / 2 ^ 23 = 1 then -((w.toNat % 2 ^ 23 : Nat) : Int) else (w.toNat : Int) := by
  have hfields := toNat_eq_sign_mag w
  have hmag := mag_lt w
  cases hs : sign w with
  | true =>
    rw [hs, Bool.toNat_true] at hfields
    rw [toSigned_of_sign hs, mag_eq, if_pos (by omega)]
  | false =>
    rw [hs, Bool.toNat_false] at hfields
    rw [toSigned_of_not_sign hs, if_neg (by omega)]
    omega

theorem toSigned_range (w : Word) : -(2 ^ 23 - 1) ≤ toSigned w ∧ toSigned w ≤ 2 ^ 23 - 1 := by
  have hmag := mag_lt w
  cases hs : sign w with
  | true => rw [toSigned_of_sign hs]; omega
  | false => rw [toSigned_of_not_sign hs]; omega

section Representable

variable {x : Int} (hlo : -(2 ^ 23 - 1) ≤ x) (hhi : x ≤ 2 ^ 23 - 1)
include hlo hhi

/-- The magnitude of a representable integer fits its 23 bits (R141). -/
theorem mag_fromSigned : mag (fromSigned x) = x.natAbs := by
  rw [fromSigned, mag_signMag]
  omega

theorem toSigned_fromSigned : toSigned (fromSigned x) = x := by
  have hmag := mag_fromSigned hlo hhi
  have hsign : sign (fromSigned x) = decide (x < 0) := sign_signMag _ _
  by_cases hx : x < 0
  · rw [toSigned_of_sign (by simp [hsign, hx]), hmag]; omega
  · rw [toSigned_of_not_sign (by simp [hsign, hx]), hmag]; omega

theorem toNat_fromSigned :
    (fromSigned x).toNat = if x < 0 then 2 ^ 23 + x.natAbs else x.natAbs := by
  rw [fromSigned, toNat_signMag]
  split
  case isTrue hx => simp only [hx, decide_true, Bool.toNat_true]; omega
  case isFalse hx => simp only [hx, decide_false, Bool.toNat_false]; omega

/-- Minus zero has sign 1 and magnitude 0, and the sign is 1 only for a negative integer, whose magnitude is not 0. -/
theorem fromSigned_ne_minusZero : fromSigned x ≠ 0x800000#24 := by
  intro h
  have hnat := toNat_fromSigned hlo hhi
  rw [h, show (0x800000#24).toNat = 2 ^ 23 from rfl] at hnat
  split at hnat <;> omega

end Representable

/-- Settles O20: each clause is one of the lemmas above. -/
theorem signMagnitudeConversions : Obligations.SignMagnitudeConversions :=
  ⟨toSigned_eq, toSigned_range, rfl, rfl,
    fun _ hlo hhi => ⟨toNat_fromSigned hlo hhi, fromSigned_ne_minusZero hlo hhi⟩⟩

/-! ### The saturating sum and difference (R142 to R144) -/

/-- R142: saturation is the clamp to the representable range. -/
theorem sat23_eq_clamp (x : Int) : sat23 x = max (-(2 ^ 23 - 1)) (min (2 ^ 23 - 1) x) := by
  unfold sat23
  split_ifs <;> omega

theorem sat23_range (x : Int) : -(2 ^ 23 - 1) ≤ sat23 x ∧ sat23 x ≤ 2 ^ 23 - 1 := by
  rw [sat23_eq_clamp]
  omega

/-- What `add` and `sub` have in common: a saturated result is representable, so its word has exactly that integer and is
not minus zero. -/
theorem fromSigned_sat23_spec (x : Int) :
    toSigned (fromSigned (sat23 x)) = max (-(2 ^ 23 - 1)) (min (2 ^ 23 - 1) x) ∧
      fromSigned (sat23 x) ≠ 0x800000#24 := by
  obtain ⟨hlo, hhi⟩ := sat23_range x
  exact ⟨(toSigned_fromSigned hlo hhi).trans (sat23_eq_clamp x), fromSigned_ne_minusZero hlo hhi⟩

/-- R105, opcode 13. -/
theorem decode_of_opcode_thirteen {w : Word} (h : opField w = 13#4) (m : Bool) :
    decode m w = .add (flagField w) (spField w) (chan w) (sect w) := by
  simp [decode, h]

/-- R105, opcode 15. -/
theorem decode_of_opcode_fifteen {w : Word} (h : opField w = 15#4) (m : Bool) :
    decode m w = .sub (flagField w) (spField w) (chan w) (sect w) := by
  simp [decode, h]

/-- Settles O23: the word ADD writes is the saturated sum. -/
theorem addSaturates : Obligations.AddSaturates :=
  ⟨fun m _ h => decode_of_opcode_thirteen h m, fun flag sp c sec s =>
    ⟨smAdd s.regA (s.operand c sec), exec_eq (.add flag sp c sec) s, fromSigned_sat23_spec _⟩⟩

/-- Settles O24: the word SUB writes is the saturated difference. -/
theorem subSaturates : Obligations.SubSaturates :=
  ⟨fun m _ h => decode_of_opcode_fifteen h m, fun flag sp c sec s =>
    ⟨smSub s.regA (s.operand c sec), exec_eq (.sub flag sp c sec) s, fromSigned_sat23_spec _⟩⟩

/-! ### The split sum and difference (R148) -/

/-- The high lane of a lane operation comes from the high lanes alone (R147, R159). -/
theorem toNat_zipLanes_div (f : BitVec 12 → BitVec 12 → BitVec 12) (a b : Word) :
    (zipLanes f a b).toNat / 4096 = (f (hi a) (hi b)).toNat := by
  rw [← toNat_hi, zipLanes, hi_pack]

/-- The low lane of a lane operation comes from the low lanes alone (R147, R159). -/
theorem toNat_zipLanes_mod (f : BitVec 12 → BitVec 12 → BitVec 12) (a b : Word) :
    (zipLanes f a b).toNat % 4096 = (f (lo a) (lo b)).toNat := by
  rw [← toNat_lo, zipLanes, lo_pack]

theorem toNat_laneAdd (x y : BitVec 12) : (laneAdd x y).toNat = (x.toNat + y.toNat) % 4096 :=
  BitVec.toNat_add x y

theorem toNat_laneSub (x y : BitVec 12) : (laneSub x y).toNat = (x.toNat + 4096 - y.toNat) % 4096 := by
  have hy := y.isLt
  rw [laneSub, BitVec.toNat_sub]
  omega

/-- R105, opcode 12. -/
theorem decode_of_opcode_twelve {w : Word} (h : opField w = 12#4) (m : Bool) :
    decode m w = .sad (flagField w) (spField w) (chan w) (sect w) := by
  simp [decode, h]

/-- R105, opcode 14. -/
theorem decode_of_opcode_fourteen {w : Word} (h : opField w = 14#4) (m : Bool) :
    decode m w = .ssu (flagField w) (spField w) (chan w) (sect w) := by
  simp [decode, h]

/-- Settles O25: each lane of the word written is the lane function of the lanes of A and of the operand. -/
theorem splitAddAndSubtract : Obligations.SplitAddAndSubtract := by
  refine ⟨fun m _ => ⟨fun h => decode_of_opcode_twelve h m, fun h => decode_of_opcode_fourteen h m⟩,
    fun flag sp c sec s => ⟨zipLanes laneAdd s.regA (s.operand c sec), zipLanes laneSub s.regA (s.operand c sec),
      exec_eq (.sad flag sp c sec) s, exec_eq (.ssu flag sp c sec) s, ?_, ?_, ?_, ?_⟩⟩
  · rw [toNat_zipLanes_div, toNat_laneAdd, toNat_hi, toNat_hi]
  · rw [toNat_zipLanes_mod, toNat_laneAdd, toNat_lo, toNat_lo]
  · rw [toNat_zipLanes_div, toNat_laneSub, toNat_hi, toNat_hi]
  · rw [toNat_zipLanes_mod, toNat_laneSub, toNat_lo, toNat_lo]

end Sys2Proof.Proofs
end

