-- ==== Sys2Proof/Proofs/MultiplyDivide.lean ====
section
/-! PROOF. The product of the multiply unit (R180), written over the accumulator pair by MPM (R185). -/

namespace Sys2Proof.Proofs

open Sys2Proof.Machine

/-- A word of sign 0 is its own magnitude (R13). -/
theorem toNat_of_not_sign {w : Word} (h : sign w = false) : w.toNat = mag w := by
  rw [toNat_eq_sign_mag w, h, Bool.toNat_false, Nat.zero_mul, Nat.zero_add]

/-! ### The multiply unit (R180) -/

/-- R180: A and L are the high and the low half of the product. Two 23-bit magnitudes have a 46-bit product, so the high
half fits A and nothing is lost. -/
theorem mulCore_product {ma mm : Nat} (ha : ma < 2 ^ 23) (hm : mm < 2 ^ 23) (sa sm : Bool) :
    mag (mulCore sa ma sm mm).a * 2 ^ 23 + mag (mulCore sa ma sm mm).l = ma * mm := by
  have hprod : ma * mm < 2 ^ 23 * 2 ^ 23 := Nat.mul_lt_mul'' ha hm
  have hhigh : ma * mm / 2 ^ 23 < 2 ^ 23 := Nat.div_lt_of_lt_mul hprod
  simp only [mulCore, mag_signMag, Nat.mod_mod, Nat.mod_eq_of_lt hhigh, Nat.div_add_mod']

/-- R180: the sign of A is the exclusive or of the two signs. -/
theorem sign_mulCore_a (sa sm : Bool) (ma mm : Nat) : sign (mulCore sa ma sm mm).a = (sa ^^ sm) :=
  sign_signMag _ _

/-- R180: the sign of L is 0. -/
theorem sign_mulCore_l (sa sm : Bool) (ma mm : Nat) : sign (mulCore sa ma sm mm).l = false :=
  sign_signMag _ _

/-- A result without an error writes A and L alone: `error` stays as it was (R332). -/
theorem withPair_of_not_error (s : State) {r : PairResult} (h : r.error = false) :
    s.withPair r = { s with regA := r.a, regL := r.l } := by
  rw [State.withPair, h, Bool.or_false]

/-! ### MPM (R185) -/

/-- R107: opcode 7 is MPM in D17B mode. -/
theorem decode_d17b_of_opcode_seven {w : Word} (h : opField w = 7#4) :
    decode false w = .mpm (flagField w) (spField w) (chan w) (sect w) := by
  simp [decode, h]

/-- MPM completes the state with the product's two words in A and L. -/
theorem exec_mpm (flag : Bool) (sp : NextSector) (c : Channel) (sec : Sector) (s : State) :
    exec (.mpm flag sp c sec) s =
      .next (State.completed { s with regA := (mulMagnitudes s.regA (s.operand c sec)).a,
                                      regL := (mulMagnitudes s.regA (s.operand c sec)).l }
        7#4 flag sec (s.sequenced sp)) := by
  have herror : (mulMagnitudes s.regA (s.operand c sec)).error = false := rfl
  rw [← withPair_of_not_error s herror]
  exact exec_eq (.mpm flag sp c sec) s

theorem sign_mulMagnitudes_a (a m : Word) : sign (mulMagnitudes a m).a = false :=
  sign_mulCore_a false false _ _

theorem sign_mulMagnitudes_l (a m : Word) : sign (mulMagnitudes a m).l = false :=
  sign_mulCore_l false false _ _

/-- R185: with both signs 0, the words themselves are the halves of the product of the magnitudes. -/
theorem toNat_mulMagnitudes (a m : Word) :
    (mulMagnitudes a m).a.toNat * 2 ^ 23 + (mulMagnitudes a m).l.toNat = mag a * mag m := by
  rw [toNat_of_not_sign (sign_mulMagnitudes_a a m), toNat_of_not_sign (sign_mulMagnitudes_l a m)]
  exact mulCore_product (mag_lt a) (mag_lt m) false false

/-- Settles O29: the words MPM writes are those of the multiply unit, given the magnitudes with both signs 0. -/
theorem mpmProduct : Obligations.MpmProduct :=
  ⟨fun _ h => decode_d17b_of_opcode_seven h, fun flag sp c sec s =>
    ⟨(mulMagnitudes s.regA (s.operand c sec)).a, (mulMagnitudes s.regA (s.operand c sec)).l,
      exec_mpm flag sp c sec s, toNat_mulMagnitudes _ _, sign_mulMagnitudes_a _ _, sign_mulMagnitudes_l _ _⟩⟩

end Sys2Proof.Proofs
end

section
/-! PROOF. The shift and rotate family (43_shift.md): the words that decode to it (R108, R116), the lane shifts bit by
bit (R222, R224, R225, R227, R229, R230), the full shifts in numbers (R223, R228) and the rotates (R226, R231). -/

namespace Sys2Proof.Proofs

open Sys2Proof.Machine

/-! ### The words of the family (R108, R116) -/

@[simp] theorem shiftSub_shiftSector (sub : BitVec 4) (n : Nat) : shiftSub (shiftSector sub n) = sub :=
  BitVec.extractLsb'_append_eq_left

@[simp] theorem lowBits_shiftSector (sub : BitVec 4) (n : Nat) : lowBits (shiftSector sub n) = BitVec.ofNat 3 n :=
  BitVec.extractLsb'_append_eq_right

/-- R108: the counts 1 to 8 are read back from three bits, 8 from the field 0. -/
theorem shiftCount_ofNat {n : Nat} (h1 : 1 ≤ n) (h8 : n ≤ 8) : shiftCount (BitVec.ofNat 3 n) = n := by
  have hzero : BitVec.ofNat 3 n = 0#3 ↔ n = 8 := by
    rw [BitVec.toNat_eq, BitVec.toNat_ofNat, BitVec.toNat_ofNat]
    omega
  unfold shiftCount
  split
  case isTrue h => exact (hzero.mp h).symm
  case isFalse h =>
    have hne : n ≠ 8 := mt hzero.mpr h
    rw [BitVec.toNat_ofNat]
    omega

/-- The word of sub-op `sub` and count `n` with FLAG, Sp and C all 0, in numbers (R116). -/
theorem ofNat_shiftWord (sub : BitVec 4) (n : Nat) :
    BitVec.ofNat 24 (sub.toNat * 32 + n % 8 * 4) = encodeFields 0#4 ⟨false, 0#4, 0#6⟩ (shiftSector sub n) := by
  have hsub := sub.isLt
  apply BitVec.eq_of_toNat_eq
  simp only [encodeFields, shiftSector, toNat_append_eq, BitVec.toNat_ofNat, BitVec.toNat_ofBool, Bool.toNat_false]
  omega

/-- Decoding a shift word is decoding its S in the family; `base` is the word of `sub` with the count field 0. -/
theorem decode_shiftWord (sub : BitVec 4) {base : Nat} (hbase : base = sub.toNat * 32) (m : Bool) (n : Nat) :
    decode m (BitVec.ofNat 24 (base + n % 8 * 4)) = decodeShift m false 0#4 0#6 (shiftSector sub n) := by
  rw [hbase, ofNat_shiftWord, decode_of_shift (opField_encodeFields _ _ _)]
  simp

section ShiftSubOps

variable {n : Nat} (h1 : 1 ≤ n) (h8 : n ≤ 8) (m flag : Bool) (sp : NextSector) (c : Channel)
include h1 h8

/-! The shift sub-ops of R109, each with the count that its word was made of. -/

theorem decodeShift_sal : decodeShift m flag sp c (shiftSector 8#4 n) = .sal flag sp c n := by
  simp [decodeShift, shiftCount_ofNat h1 h8]

theorem decodeShift_als : decodeShift m flag sp c (shiftSector 9#4 n) = .als flag sp c n := by
  simp [decodeShift, shiftCount_ofNat h1 h8]

theorem decodeShift_sll : decodeShift m flag sp c (shiftSector 10#4 n) = .sll flag sp c n := by
  simp [decodeShift, shiftCount_ofNat h1 h8]

theorem decodeShift_srl_or_alc :
    decodeShift m flag sp c (shiftSector 11#4 n) = if m then .alc flag sp c n else .srl flag sp c n := by
  simp [decodeShift, shiftCount_ofNat h1 h8]

theorem decodeShift_sar : decodeShift m flag sp c (shiftSector 12#4 n) = .sar flag sp c n := by
  simp [decodeShift, shiftCount_ofNat h1 h8]

theorem decodeShift_ars : decodeShift m flag sp c (shiftSector 13#4 n) = .ars flag sp c n := by
  simp [decodeShift, shiftCount_ofNat h1 h8]

theorem decodeShift_slr : decodeShift m flag sp c (shiftSector 14#4 n) = .slr flag sp c n := by
  simp [decodeShift, shiftCount_ofNat h1 h8]

theorem decodeShift_srr_or_arc :
    decodeShift m flag sp c (shiftSector 15#4 n) = if m then .arc flag sp c n else .srr flag sp c n := by
  simp [decodeShift, shiftCount_ofNat h1 h8]

end ShiftSubOps

/-! ### Lane shifts, bit by bit (R221) -/

/-- The low lane shifted left: bit `j` comes from `n` places below, if that is in the lane. -/
theorem getLsbD_laneShl_lo (w : Word) (n : Nat) {j : Nat} (hj : j < 12) :
    (laneShl n (lo w)).getLsbD j = (decide (n ≤ j % 12) && w.getLsbD (j - n)) := by
  have hin : j - n < 12 := by omega
  rw [laneShl, BitVec.getLsbD_shiftLeft, getLsbD_lo, Nat.mod_eq_of_lt hj]
  simp [hj, hin, ← decide_not]

/-- The high lane shifted left: nothing comes from below bit 12. -/
theorem getLsbD_laneShl_hi (w : Word) (n : Nat) {j : Nat} (h12 : 12 ≤ j) (hj : j < 24) :
    (laneShl n (hi w)).getLsbD (j - 12) = (decide (n ≤ j % 12) && w.getLsbD (j - n)) := by
  have hmod : j % 12 = j - 12 := by omega
  rw [laneShl, BitVec.getLsbD_shiftLeft, getLsbD_hi, hmod]
  by_cases hn : n ≤ j - 12
  · simp [hn, show j - 12 < 12 by omega, show j - 12 - n < 12 by omega, show 12 + (j - 12 - n) = j - n by omega]
  · simp [hn, Nat.lt_of_not_le hn]

/-- The low lane shifted right: nothing comes from above bit 11. -/
theorem getLsbD_laneShr_lo (w : Word) (n : Nat) {j : Nat} (hj : j < 12) :
    (laneShr n (lo w)).getLsbD j = (decide (j % 12 + n < 12) && w.getLsbD (j + n)) := by
  rw [laneShr, BitVec.getLsbD_ushiftRight, getLsbD_lo, Nat.mod_eq_of_lt hj, Nat.add_comm n j]

/-- The high lane shifted right, with zeros from above bit 23. -/
theorem getLsbD_laneShr_hi (w : Word) (n : Nat) {j : Nat} (h12 : 12 ≤ j) (hj : j < 24) :
    (laneShr n (hi w)).getLsbD (j - 12) = (decide (j % 12 + n < 12) && w.getLsbD (j + n)) := by
  have hmod : n + (j - 12) = j % 12 + n := by omega
  have hbit : 12 + (j % 12 + n) = j + n := by omega
  rw [laneShr, BitVec.getLsbD_ushiftRight, getLsbD_hi, hmod, hbit]

/-- What a split instruction and its two one-lane forms write, when the lane function `f` puts bit `shifted j` of the
whole word at position `j`: `shifted` in the lanes named, and the bit of `w` itself in a lane that is not. -/
theorem getLsbD_lanes {f : BitVec 12 → BitVec 12} {w : Word} {shifted : Nat → Bool}
    (hlo : ∀ j, j < 12 → (f (lo w)).getLsbD j = shifted j)
    (hhi : ∀ j, 12 ≤ j → j < 24 → (f (hi w)).getLsbD (j - 12) = shifted j) {j : Nat} (hj : j < 24) :
    (mapLanes f w).getLsbD j = shifted j ∧
    (pack (f (hi w)) (lo w)).getLsbD j = (if 12 ≤ j then shifted j else w.getLsbD j) ∧
    (pack (hi w) (f (lo w))).getLsbD j = (if j < 12 then shifted j else w.getLsbD j) := by
  simp only [mapLanes, getLsbD_pack]
  rcases Nat.lt_or_ge j 12 with hlow | hhigh
  · have hkept : (lo w).getLsbD j = w.getLsbD j := by rw [getLsbD_lo, decide_eq_true hlow, Bool.true_and]
    simp only [if_pos hlow, if_neg (Nat.not_le_of_lt hlow), hlo j hlow, hkept, and_self]
  · have hkept : (hi w).getLsbD (j - 12) = w.getLsbD j := by
      rw [getLsbD_hi, decide_eq_true (by omega), Bool.true_and, Nat.add_sub_cancel' hhigh]
    simp only [if_neg (Nat.not_lt_of_le hhigh), if_pos hhigh, hhi j hhigh hj, hkept, and_self]

/-- Settles O35: SAL, SLL and SRL are the left shift of both lanes, of the high lane and of the low lane. -/
theorem laneLeftShifts : Obligations.LaneLeftShifts :=
  ⟨fun m n h1 h8 =>
    ⟨(decode_shiftWord 8#4 rfl m n).trans (decodeShift_sal h1 h8 m false _ _),
      (decode_shiftWord 10#4 rfl m n).trans (decodeShift_sll h1 h8 m false _ _),
      (decode_shiftWord 11#4 rfl false n).trans (decodeShift_srl_or_alc h1 h8 false false _ _)⟩,
    fun flag sp c n s =>
    ⟨mapLanes (laneShl n) s.regA, pack (laneShl n (hi s.regA)) (lo s.regA), pack (hi s.regA) (laneShl n (lo s.regA)),
      exec_eq (.sal flag sp c n) s, exec_eq (.sll flag sp c n) s, exec_eq (.srl flag sp c n) s,
      fun _ hj => getLsbD_lanes (fun _ => getLsbD_laneShl_lo s.regA n) (fun _ => getLsbD_laneShl_hi s.regA n) hj⟩⟩

/-- Settles O36: SAR, SLR and SRR are the right shift of both lanes, of the high lane and of the low lane. -/
theorem laneRightShifts : Obligations.LaneRightShifts :=
  ⟨fun m n h1 h8 =>
    ⟨(decode_shiftWord 12#4 rfl m n).trans (decodeShift_sar h1 h8 m false _ _),
      (decode_shiftWord 14#4 rfl m n).trans (decodeShift_slr h1 h8 m false _ _),
      (decode_shiftWord 15#4 rfl false n).trans (decodeShift_srr_or_arc h1 h8 false false _ _)⟩,
    fun flag sp c n s =>
    ⟨mapLanes (laneShr n) s.regA, pack (laneShr n (hi s.regA)) (lo s.regA), pack (hi s.regA) (laneShr n (lo s.regA)),
      exec_eq (.sar flag sp c n) s, exec_eq (.slr flag sp c n) s, exec_eq (.srr flag sp c n) s,
      fun _ hj => getLsbD_lanes (fun _ => getLsbD_laneShr_lo s.regA n) (fun _ => getLsbD_laneShr_hi s.regA n) hj⟩⟩

/-! ### Full shifts (R223, R228) -/

theorem shiftLeft_eq_ofNat_mul (w : Word) (n : Nat) : w <<< n = BitVec.ofNat 24 (w.toNat * 2 ^ n) := by
  apply BitVec.eq_of_toNat_eq
  rw [BitVec.toNat_shiftLeft, BitVec.toNat_ofNat, Nat.shiftLeft_eq]

/-- The quotient is no larger than the word, so narrowing it loses nothing. -/
theorem ushiftRight_eq_ofNat_div (w : Word) (n : Nat) : w >>> n = BitVec.ofNat 24 (w.toNat / 2 ^ n) := by
  have hlt : w.toNat / 2 ^ n < 2 ^ 24 := (Nat.div_le_self _ _).trans_lt w.isLt
  apply BitVec.eq_of_toNat_eq
  rw [BitVec.toNat_ushiftRight, BitVec.toNat_ofNat, Nat.mod_eq_of_lt hlt, Nat.shiftRight_eq_div_pow]

/-- Settles O37: ALS is the left shift of the whole word, which multiplies, and ARS the right shift, which divides. -/
theorem fullShifts : Obligations.FullShifts := by
  refine ⟨fun m n h1 h8 =>
    ⟨(decode_shiftWord 9#4 rfl m n).trans (decodeShift_als h1 h8 m false _ _),
      (decode_shiftWord 13#4 rfl m n).trans (decodeShift_ars h1 h8 m false _ _)⟩, fun flag sp c n s => ⟨?_, ?_⟩⟩
  · rw [← shiftLeft_eq_ofNat_mul]
    exact exec_eq (.als flag sp c n) s
  · rw [← ushiftRight_eq_ofNat_div]
    exact exec_eq (.ars flag sp c n) s

/-! ### Rotates (R226, R231) -/

/-- The rotate of the model is the rotate of the library. -/
theorem rotl24_eq_rotateLeft (w : Word) {n : Nat} (hn : n < 24) : rotl24 w n = w.rotateLeft n := by
  rw [BitVec.rotateLeft_def, Nat.mod_eq_of_lt hn, rotl24]

theorem rotr24_eq_rotateRight (w : Word) {n : Nat} (hn : n < 24) : rotr24 w n = w.rotateRight n := by
  rw [BitVec.rotateRight_def, Nat.mod_eq_of_lt hn, rotr24]

section RotateBits

variable (w : Word) {n j : Nat} (hn : n < 24) (hj : j < 24)
include hn hj

/-- A left rotate moves bit `j` up by `n`, and around the word from bit 23 to bit 0. -/
theorem getLsbD_rotl24 : (rotl24 w n).getLsbD ((j + n) % 24) = w.getLsbD j := by
  rw [rotl24_eq_rotateLeft w hn, BitVec.getLsbD_rotateLeft, Nat.mod_eq_of_lt hn]
  rcases Nat.lt_or_ge (j + n) 24 with hstay | hwrap
  · have hpos : (j + n) % 24 = j + n := Nat.mod_eq_of_lt hstay
    simp [hpos, hstay]
  · have hpos : (j + n) % 24 = j + n - 24 := by omega
    have hbit : 24 - n + (j + n - 24) = j := by omega
    simp [hpos, hbit, show j + n - 24 < n by omega]

/-- A right rotate brings to bit `j` the bit `n` places above it, around the word. -/
theorem getLsbD_rotr24 : (rotr24 w n).getLsbD j = w.getLsbD ((j + n) % 24) := by
  rw [rotr24_eq_rotateRight w hn, BitVec.getLsbD_rotateRight, Nat.mod_eq_of_lt hn]
  rcases Nat.lt_or_ge (j + n) 24 with hstay | hwrap
  · have hpos : (j + n) % 24 = n + j := by omega
    simp [hpos, show j < 24 - n by omega]
  · have hpos : (j + n) % 24 = j - (24 - n) := by omega
    simp [hpos, hj, show ¬ j < 24 - n by omega]

end RotateBits

/-- Settles O38: ALC and ARC are the two rotates, by a count below the width of the word. -/
theorem rotates : Obligations.Rotates :=
  ⟨fun n h1 h8 =>
    ⟨(decode_shiftWord 11#4 rfl true n).trans (decodeShift_srl_or_alc h1 h8 true false _ _),
      (decode_shiftWord 15#4 rfl true n).trans (decodeShift_srr_or_arc h1 h8 true false _ _)⟩,
    fun flag sp c n s _ h8 =>
    have hn : n < 24 := by omega
    ⟨rotl24 s.regA n, rotr24 s.regA n, exec_eq (.alc flag sp c n) s, exec_eq (.arc flag sp c n) s,
      fun _ hj => ⟨getLsbD_rotl24 s.regA hn hj, getLsbD_rotr24 s.regA hn hj⟩⟩⟩

end Sys2Proof.Proofs
end

section
/-! PROOF. The end of a step and the instructions of 44_sequencer_control.md: a word time passes in every step (R256), the
control transfers (R260 to R262), and the store STO (R263). -/

namespace Sys2Proof.Proofs

open Sys2Proof.Machine

/-! ### The flag store and a word time, over a main effect (R200, R252, R256) -/

/-- An opcode outside FLAG_STORE_OPS ignores FLAG (R200). -/
theorem completed_of_not_mem {e : State} {op : Opcode} (h : op ∉ e.flagStoreOps) (flag : Bool) (sec : Sector)
    (dest : Word) : State.completed e op flag sec dest = e.wordTimeLater dest := by
  have hoff : ¬ (flag = true ∧ op ∈ e.flagStoreOps) := fun hrun => h hrun.2
  rw [State.completed, if_neg hoff]

/-- The flag store does not touch the counters, so what completes a step is one word time. -/
theorem completed_counters (e : State) (op : Opcode) (flag : Bool) (sec : Sector) (dest : Word) :
    (State.completed e op flag sec dest).currentSector.val = (e.currentSector.val + 1) % 128 ∧
      (State.completed e op flag sec dest).cycleCount = e.cycleCount + 1 := by
  unfold State.completed
  split <;> simp [State.wordTimeLater]

/-- No instruction's main effect is on the counters: only the passing word time advances them. -/
theorem mainEffect_counters (s : State) (i : Instr) :
    (mainEffect s i).currentSector = s.currentSector ∧ (mainEffect s i).cycleCount = s.cycleCount := by
  cases i with
  | sto flag sp c sec => exact ⟨State.memWrite_currentSector .., State.memWrite_cycleCount ..⟩
  | ora flag sp c b =>
    simp only [mainEffect]
    split
    · exact ⟨State.setA_currentSector .., State.setA_cycleCount ..⟩
    · exact ⟨rfl, rfl⟩
  | _ => exact ⟨rfl, rfl⟩

/-- R256 for every instruction. -/
theorem exec_counters {i : Instr} {s t : State} (h : exec i s = .next t) :
    t.currentSector.val = (s.currentSector.val + 1) % 128 ∧ t.cycleCount = s.cycleCount + 1 := by
  obtain ⟨hsector, hcycles⟩ := mainEffect_counters s i
  rw [exec_eq] at h
  obtain rfl := Host.Outcome.next.inj h
  rw [← hsector, ← hcycles]
  exact completed_counters ..

/-- In RUNNING a step is the instruction it fetches (R252, R253). -/
theorem step_of_running {s : State} (h : s.halted = false) : step s = exec (decode s.d37cMode s.fetch) s := by
  simp [step, h]

/-- Settles O9: in RUNNING a step executes an instruction, and every instruction takes one word time. -/
theorem wordTimePassesEveryStep : Obligations.WordTimePassesEveryStep := by
  intro s t hrunning hstep
  rw [step_of_running hrunning] at hstep
  exact exec_counters hstep

/-! ### The control transfers (R260 to R262) -/

theorem decode_of_opcode_ten {w : Word} (h : opField w = 10#4) (m : Bool) :
    decode m w = .tra (flagField w) (spField w) (chan w) (sect w) := by
  simp [decode, h]

theorem decode_of_opcode_six {w : Word} (h : opField w = 6#4) (m : Bool) :
    decode m w = .tmi (flagField w) (spField w) (chan w) (sect w) := by
  simp [decode, h]

/-- R106: the mode bit chooses between the two instructions of opcode 2. -/
theorem decode_of_opcode_two {w : Word} (h : opField w = 2#4) (m : Bool) :
    decode m w = if m = true then .tze (flagField w) (spField w) (chan w) (sect w)
      else .tmi2 (flagField w) (spField w) (chan w) (sect w) := by
  simp [decode, h]

/-- "A[23] = 1" in numbers: bit 23 is the highest of the word. -/
theorem accNegative_iff (s : State) : s.accNegative = true ↔ 2 ^ 23 ≤ s.regA.toNat := by
  rw [State.accNegative, sign_eq, decide_eq_true_iff]

/-- The two words of magnitude 0 are plus zero and minus zero (R30). -/
theorem mag_eq_zero_iff (w : Word) : mag w = 0 ↔ w = 0#24 ∨ w = 0x800000#24 := by
  constructor
  · intro hmag
    cases hsign : sign w with
    | false => exact .inl (word_ext hsign hmag)
    | true => exact .inr (word_ext hsign hmag)
  · rintro (rfl | rfl) <;> rfl

theorem accZero_iff (s : State) : s.accZero = true ↔ s.regA = 0#24 ∨ s.regA = 0x800000#24 := by
  rw [State.accZero, decide_eq_true_iff, mag_eq_zero_iff]

section Transfers

variable (flag : Bool) (sp : NextSector) (c : Channel) (sec : Sector) (s : State)

/-- A control transfer by the proposition its condition stands for. -/
theorem branch_of_iff {cond : Bool} {P : Prop} [Decidable P] (h : cond = true ↔ P) (op : Opcode) :
    s.branch op cond flag sp c sec = State.completed s op flag sec (if P then loc c sec else s.sequenced sp) := by
  rw [State.branch_eq]
  simp only [h]

theorem exec_tra : exec (.tra flag sp c sec) s = .next (State.completed s 10#4 flag sec (loc c sec)) :=
  exec_eq (.tra flag sp c sec) s

theorem exec_tmi : exec (.tmi flag sp c sec) s = .next (State.completed s 6#4 flag sec
    (if 2 ^ 23 ≤ s.regA.toNat then loc c sec else s.sequenced sp)) :=
  congrArg Host.Outcome.next (branch_of_iff flag sp c sec s (accNegative_iff s) 6#4)

theorem exec_tmi2 : exec (.tmi2 flag sp c sec) s = .next (State.completed s 2#4 flag sec
    (if 2 ^ 23 ≤ s.regA.toNat then loc c sec else s.sequenced sp)) :=
  congrArg Host.Outcome.next (branch_of_iff flag sp c sec s (accNegative_iff s) 2#4)

theorem exec_tze : exec (.tze flag sp c sec) s = .next (State.completed s 2#4 flag sec
    (if s.regA = 0#24 ∨ s.regA = 0x800000#24 then loc c sec else s.sequenced sp)) :=
  congrArg Host.Outcome.next (branch_of_iff flag sp c sec s (accZero_iff s) 2#4)

end Transfers

/-- Settles O40: each condition is read off A, and none of the three opcodes is in the default FLAG_STORE_OPS. -/
theorem controlTransfers : Obligations.ControlTransfers := by
  refine ⟨fun m _ => ⟨fun h => decode_of_opcode_ten h m, fun h => decode_of_opcode_six h m,
      fun h => decode_of_opcode_two h m⟩,
    fun flag sp c sec s => ⟨exec_tra flag sp c sec s, exec_tmi flag sp c sec s, exec_tmi2 flag sp c sec s,
      exec_tze flag sp c sec s⟩, fun sp c sec s hops => ?_⟩
  have h10 : 10#4 ∉ s.flagStoreOps := by rw [hops]; decide
  have h6 : 6#4 ∉ s.flagStoreOps := by rw [hops]; decide
  have h2 : 2#4 ∉ s.flagStoreOps := by rw [hops]; decide
  refine ⟨?_, ?_, ?_, ?_⟩
  · simp only [exec_tra, completed_of_not_mem h10]
  · simp only [exec_tmi, completed_of_not_mem h6]
  · simp only [exec_tmi2, completed_of_not_mem h2]
  · simp only [exec_tze, completed_of_not_mem h2]

/-! ### The store STO (R263) -/

theorem decode_of_opcode_eleven {w : Word} (h : opField w = 11#4) (m : Bool) :
    decode m w = .sto (flagField w) (spField w) (chan w) (sect w) := by
  simp [decode, h]

/-- R75: a memory write changes the one storage word it names, and no other element of the state. -/
theorem sameButStorage_writePlace (s : State) (w : Word) (p : Place) : SameButStorage s (s.writePlace w p) := by
  cases p <;> rfl

section MemoryWrite

variable {s : State} {ch sec ch' sec' : Nat} (w : Word)

theorem memRead_memWrite_of_sameWord (h : SameWord s.memSize ch sec ch' sec') :
    (s.memWrite ch sec w).memRead ch' sec' = w := by
  rw [State.memRead_memWrite, if_pos ((sameWord_iff ..).mp h)]

theorem memRead_memWrite_of_not_sameWord (h : ¬ SameWord s.memSize ch sec ch' sec') :
    (s.memWrite ch sec w).memRead ch' sec' = s.memRead ch' sec' := by
  rw [State.memRead_memWrite, if_neg (mt (sameWord_iff ..).mpr h)]

/-- R75: a write to an unpopulated address off the loop channels is a no-op. -/
theorem memWrite_of_unpopulated (hloop : loopSize ch = none) (hpop : populated s.memSize ch sec = false) :
    s.memWrite ch sec w = s := by
  apply State.memWrite_nothing
  rw [place_bulkChannel s.memSize hloop, hpop]
  rfl

end MemoryWrite

theorem exec_sto (flag : Bool) (sp : NextSector) (c : Channel) (sec : Sector) (s : State) :
    exec (.sto flag sp c sec) s =
      .next (State.completed (s.memWrite c.toNat sec.toNat s.regA) 11#4 flag sec (s.sequenced sp)) :=
  exec_eq (.sto flag sp c sec) s

/-- The write keeps FLAG_STORE_OPS, and opcode 11 is not in its default. -/
theorem exec_sto_flag {s : State} (hops : s.flagStoreOps = Config.flagStoreOps) (sp : NextSector) (c : Channel)
    (sec : Sector) : exec (.sto true sp c sec) s = exec (.sto false sp c sec) s := by
  have h11 : 11#4 ∉ (s.memWrite c.toNat sec.toNat s.regA).flagStoreOps := by
    rw [State.memWrite_flagStoreOps, hops]
    decide
  simp only [exec_sto, completed_of_not_mem h11]

/-- Settles O42: STO completes the state after a memory write of A. -/
theorem stoWritesTheAccumulator : Obligations.StoWritesTheAccumulator :=
  ⟨fun m _ h => decode_of_opcode_eleven h m, fun flag sp c sec s =>
    ⟨s.memWrite c.toNat sec.toNat s.regA, exec_sto flag sp c sec s, sameButStorage_writePlace s s.regA _,
      memWrite_of_unpopulated s.regA, fun _ _ => ⟨memRead_memWrite_of_sameWord s.regA,
        memRead_memWrite_of_not_sameWord s.regA, fun hops => exec_sto_flag hops sp c sec⟩⟩⟩

end Sys2Proof.Proofs
end

section
/-! PROOF. The special and I/O instructions of 45_special_io.md: RSD (R301), the countdown enable (R302), ANA and ORA (R303,
R304), MIM and COM (R305, R306), discrete input and output (R307, R308), and LPR with the phase register (R311). -/

namespace Sys2Proof.Proofs

open Sys2Proof.Machine

/-! ### The detector and the discrete latches (R301, R307, R308) -/

/-- Settles O44: RSD's main effect is the write of the detector. -/
theorem rsdClearsTheDetector : Obligations.RsdClearsTheDetector :=
  ⟨fun _ => rfl, fun flag sp c b s => exec_eq (.rsd flag sp c b) s⟩

/-- Settles O48: each main effect is one copy between A and a latch. -/
theorem discreteInputAndOutput : Obligations.DiscreteInputAndOutput :=
  ⟨fun _ => ⟨rfl, rfl, rfl⟩, fun flag sp c b s =>
    ⟨exec_eq (.dia flag sp c b) s, exec_eq (.dib flag sp c b) s, exec_eq (.doa flag sp c b) s⟩⟩

/-! ### The countdown enable (R302) -/

/-- The flag store does not touch the countdown, so what completes a step is the decrement that the main effect's
`countdown_enabled` allows (R257). -/
theorem completed_fineCountdown (e : State) (op : Opcode) (flag : Bool) (sec : Sector) (dest : Word) :
    (State.completed e op flag sec dest).fineCountdown.toNat =
      if e.countdownEnabled = true then e.fineCountdown.toNat - 1 else e.fineCountdown.toNat := by
  have hfits : (if e.countdownEnabled = true then e.fineCountdown.toNat - 1 else e.fineCountdown.toNat) < 2 ^ 24 := by
    have hlt := e.fineCountdown.isLt
    split <;> omega
  rw [State.completed]
  split <;>
    simpa only [State.wordTimeLater, State.flagStore_countdownEnabled, State.flagStore_fineCountdown, BitVec.toNat_ofNat]
      using Nat.mod_eq_of_lt hfits

/-- Settles O45: the countdown of the step sees the `countdown_enabled` that its own main effect wrote. -/
theorem countdownEnable : Obligations.CountdownEnable :=
  ⟨fun _ => ⟨rfl, rfl⟩, fun flag sp c b s =>
    ⟨_, _, rfl, rfl, exec_eq (.efc flag sp c b) s, exec_eq (.hfc flag sp c b) s,
      completed_fineCountdown { s with countdownEnabled := true } ..,
      BitVec.eq_of_toNat_eq (completed_fineCountdown { s with countdownEnabled := false } ..)⟩⟩

/-! ### ANA and ORA (R303, R304) -/

/-- The sub-op and S[0] together are the whole of S (R110, R116). -/
theorem specialSector_specialSub_specialBit (sec : Sector) : specialSector (specialSub sec) (specialBit sec) = sec := by
  apply BitVec.eq_of_getLsbD_eq
  intro j hj
  simp only [specialSector, specialSub, specialBit, BitVec.getLsbD_append, BitVec.getLsbD_ofBool, BitVec.getLsbD_extractLsb']
  cases j with
  | zero => simp
  | succ k => simp [show k < 6 by omega, Nat.add_comm 1 k]

/-- R115: in D17B mode the words of sub-op 0x10 are no-ops. -/
theorem decode_d17b_of_specialSub_ora {w : Word} (hop : opField w = 8#4) (hsub : specialSub (sect w) = 0x10#6) :
    decode false w = .spnop (flagField w) (spField w) (chan w) 0x10#6 (specialBit (sect w)) := by
  rw [decode_of_special hop]
  simp [decodeSpecial, hsub]

/-- A special no-op has no main effect: the state is completed as it is (R312). -/
theorem exec_spnop (flag : Bool) (sp : NextSector) (c : Channel) (sub : BitVec 6) (b : Bool) (s : State) :
    exec (.spnop flag sp c sub b) s =
      .next (State.completed s 8#4 flag (specialSector sub b) (s.sequenced sp)) :=
  exec_eq (.spnop flag sp c sub b) s

theorem exec_d17b_of_specialSub_ora {w : Word} (s : State) (hop : opField w = 8#4)
    (hsub : specialSub (sect w) = 0x10#6) : exec (decode false w) s =
      .next (State.completed s 8#4 (flagField w) (sect w) (s.sequenced (spField w))) := by
  rw [decode_d17b_of_specialSub_ora hop hsub, exec_spnop, ← hsub, specialSector_specialSub_specialBit]

/-- ORA in both modes, as one write of A: in D17B mode A is written with itself (R304). -/
theorem exec_ora (flag : Bool) (sp : NextSector) (c : Channel) (b : Bool) (s : State) :
    exec (.ora flag sp c b) s =
      .next (State.completed { s with regA := if s.d37cMode = true then s.regA ||| s.regL else s.regA } 8#4 flag
        (specialSector 0x10#6 b) (s.sequenced sp)) := by
  have hmain : mainEffect s (.ora flag sp c b) =
      { s with regA := if s.d37cMode = true then s.regA ||| s.regL else s.regA } := by
    simp only [mainEffect]
    split <;> rfl
  rw [exec_eq, hmain]
  rfl

/-- Settles O46: the words ANA and ORA write, bit by bit, and the words of ORA's sub-op in D17B mode. -/
theorem andOrWithL : Obligations.AndOrWithL := by
  refine ⟨fun _ => rfl, rfl, fun w s hop hsub => exec_d17b_of_specialSub_ora s hop hsub, fun flag sp c b s =>
    ⟨s.regA &&& s.regL, if s.d37cMode = true then s.regA ||| s.regL else s.regA, exec_eq (.ana flag sp c b) s,
      exec_ora flag sp c b s, fun j => ⟨BitVec.getLsbD_and, ?_⟩⟩⟩
  cases s.d37cMode with
  | true => simp
  | false => simp

/-! ### MIM and COM (R305, R306) -/

@[simp] theorem sign_minusMagnitude (a : Word) : sign (minusMagnitude a) = true := by simp [sign, minusMagnitude]

/-- The low 23 bits of the mask are 0, so MIM keeps the magnitude (R146). -/
@[simp] theorem mag_minusMagnitude (a : Word) : mag (minusMagnitude a) = mag a := by
  rw [mag, minusMagnitude, BitVec.extractLsb'_or, show (0x800000#24).extractLsb' 0 23 = 0#23 from rfl, BitVec.or_zero, mag]

@[simp] theorem sign_complement (a : Word) : sign (complement a) = !sign a := by simp [sign, complement]

/-- The low 23 bits of the mask are 0, so COM keeps the magnitude (R145). -/
@[simp] theorem mag_complement (a : Word) : mag (complement a) = mag a := by
  rw [mag, complement, BitVec.extractLsb'_xor, show (0x800000#24).extractLsb' 0 23 = 0#23 from rfl, BitVec.xor_zero, mag]

theorem complement_complement (a : Word) : complement (complement a) = a :=
  word_ext (by rw [sign_complement, sign_complement, Bool.not_not]) (by rw [mag_complement, mag_complement])

theorem toNat_minusMagnitude (a : Word) : (minusMagnitude a).toNat = 2 ^ 23 + a.toNat % 2 ^ 23 := by
  rw [toNat_eq_sign_mag, sign_minusMagnitude, mag_minusMagnitude, mag_eq, Bool.toNat_true, Nat.one_mul]

/-- Toggling the top bit is adding it, the carry falling out of the word. -/
theorem toNat_complement (a : Word) : (complement a).toNat = (a.toNat + 2 ^ 23) % 2 ^ 24 := by
  have hmag := mag_lt a
  rw [toNat_eq_sign_mag (complement a), sign_complement, mag_complement, toNat_eq_sign_mag a]
  cases sign a with
  | true => simp only [Bool.not_true, Bool.toNat_true, Bool.toNat_false]; omega
  | false => simp only [Bool.not_false, Bool.toNat_true, Bool.toNat_false]; omega

/-- Settles O47: MIM writes the minus magnitude of A, COM its complement. -/
theorem signBitInstructions : Obligations.SignBitInstructions :=
  ⟨fun _ => ⟨rfl, rfl⟩, complement_complement, fun flag sp c b s =>
    ⟨minusMagnitude s.regA, complement s.regA, exec_eq (.mim flag sp c b) s, exec_eq (.com flag sp c b) s,
      rfl, toNat_minusMagnitude s.regA, rfl, toNat_complement s.regA⟩⟩

/-! ### LPR (R111, R311) -/

/-- Both sub-ops 0x1E and 0x1F are LPR, with the P value S[2:0] (R110, R111). -/
theorem decode_of_specialSub_lpr {w : Word} (hop : opField w = 8#4)
    (hsub : specialSub (sect w) = 0x1E#6 ∨ specialSub (sect w) = 0x1F#6) (m : Bool) :
    decode m w = .lpr (flagField w) (spField w) (chan w) (lowBits (sect w)) := by
  rw [decode_of_special hop]
  rcases hsub with h | h <;> simp [decodeSpecial, h]

theorem toNat_specialSub (sec : Sector) : (specialSub sec).toNat = sec.toNat / 2 := by
  have hsec := sec.isLt
  rw [specialSub, BitVec.extractLsb'_toNat, Nat.shiftRight_eq_div_pow]
  omega

theorem toNat_lowBits (sec : Sector) : (lowBits sec).toNat = sec.toNat % 8 := by
  rw [lowBits, BitVec.extractLsb'_toNat, Nat.shiftRight_zero]

/-- The S of an LPR word is 0x3C to 0x3F, whose bit 2 is set (R111). -/
theorem four_le_lowBits_of_lpr {sec : Sector} (hsub : specialSub sec = 0x1E#6 ∨ specialSub sec = 0x1F#6) :
    4 ≤ (lowBits sec).toNat := by
  have hhalf := toNat_specialSub sec
  rw [toNat_lowBits]
  rcases hsub with h | h <;> rw [h, BitVec.toNat_ofNat] at hhalf <;> omega

/-! ### Nothing reads P (R35, R311)

With P changed beforehand every part of a step does what it did, and P alone differs afterwards. -/

section PhaseUnread

variable (s : State) (x : BitVec 3)

theorem writePlace_setP (w : Word) (p : Place) : (s.setP x).writePlace w p = (s.writePlace w p).setP x := by
  cases p <;> rfl

theorem memWrite_setP (ch sec : Nat) (w : Word) : (s.setP x).memWrite ch sec w = (s.memWrite ch sec w).setP x :=
  writePlace_setP s x w _

theorem flagStore_setP (sec : Sector) : (s.setP x).flagStore sec = (s.flagStore sec).setP x := by
  simp only [State.flagStore]
  cases flagDest sec with
  | none => rfl
  | telemetry => rfl
  | store ch se => exact memWrite_setP s x ch se s.regA

theorem completed_setP (op : Opcode) (flag : Bool) (sec : Sector) (dest : Word) :
    State.completed (s.setP x) op flag sec dest = (State.completed s op flag sec dest).setP x := by
  rw [State.completed, State.completed, State.setP_flagStoreOps, flagStore_setP]
  split <;> rfl

theorem branchTarget_setP (i : Instr) : branchTarget (s.setP x) i = branchTarget s i := by
  cases i <;> rfl

/-- LPR leaves its own value in P, every other instruction the value found there. -/
theorem mainEffect_setP (i : Instr) : ∃ y, mainEffect (s.setP x) i = (mainEffect s i).setP y := by
  cases i with
  | lpr flag sp c p => exact ⟨p, rfl⟩
  | sto flag sp c sec => exact ⟨x, memWrite_setP s x c.toNat sec.toNat s.regA⟩
  | ora flag sp c b =>
    refine ⟨x, ?_⟩
    cases hmode : s.d37cMode <;> simp only [mainEffect, State.setP_d37cMode, hmode] <;> rfl
  | _ => exact ⟨x, rfl⟩

end PhaseUnread

/-- R311 for every instruction: the next state differs from the one without the change in P alone. -/
theorem exec_setP {i : Instr} {s t : State} (x : BitVec 3) (h : exec i s = .next t) :
    ∃ y, exec i (s.setP x) = .next (t.setP y) := by
  obtain ⟨y, hmain⟩ := mainEffect_setP s x i
  rw [exec_eq] at h
  obtain rfl := Host.Outcome.next.inj h
  refine ⟨y, ?_⟩
  rw [exec_eq, hmain, branchTarget_setP, completed_setP]
  rfl

/-- Settles O51: LPR's main effect is the write of P, from the S of its own words, and P is unread. -/
theorem lprLoadsThePhase : Obligations.LprLoadsThePhase :=
  ⟨fun _ _ _ x h => exec_setP x h,
    fun m _ hop hsub => ⟨decode_of_specialSub_lpr hop hsub m, four_le_lowBits_of_lpr hsub⟩,
    fun _ => ⟨rfl, rfl, rfl, rfl⟩,
    fun flag sp c p s => exec_eq (.lpr flag sp c p) s⟩

end Sys2Proof.Proofs
end

section
/-! PROOF. Decoding and encoding: the word of an instruction decodes to it, and a word decodes to the instruction whose word
it is (30_encoding.md sections 3 to 7). -/

namespace Sys2Proof.Proofs

/-! ### The sector fields and their parts (R108, R110, R116) -/

@[simp] theorem specialSub_specialSector (sub : BitVec 6) (b : Bool) : specialSub (specialSector sub b) = sub :=
  BitVec.extractLsb'_append_eq_left

@[simp] theorem specialBit_specialSector (sub : BitVec 6) (b : Bool) : specialBit (specialSector sub b) = b := by
  rw [specialBit, specialSector, BitVec.getLsbD_append]
  simp

@[simp] theorem shiftSub_append (sub : BitVec 4) (cnt : BitVec 3) : shiftSub (sub ++ cnt) = sub :=
  BitVec.extractLsb'_append_eq_left

@[simp] theorem lowBits_append (sub : BitVec 4) (cnt : BitVec 3) : lowBits (sub ++ cnt) = cnt :=
  BitVec.extractLsb'_append_eq_right

@[simp] theorem lowBits_lprSector (p : BitVec 3) : lowBits (lprSector p) = p :=
  BitVec.extractLsb'_append_eq_right

/-- The words of LPR are those of the two sub-ops 0x1E and 0x1F (R111). -/
theorem specialSub_lprSector {p : BitVec 3} (h : 4 ≤ p.toNat) :
    specialSub (lprSector p) = 0x1E#6 ∨ specialSub (lprSector p) = 0x1F#6 := by
  revert p
  decide

/-- The sub-op and the count field together are the whole of S (R108). -/
theorem shiftSub_append_lowBits (sec : Sector) : shiftSub sec ++ lowBits sec = sec := by
  apply BitVec.eq_of_toNat_eq
  rw [toNat_append_eq, toNat_lowBits, shiftSub, BitVec.extractLsb'_toNat, Nat.shiftRight_eq_div_pow]
  have hsec := sec.isLt
  omega

/-- A count field is the low three bits of the count it stands for (R108). -/
theorem ofNat_shiftCount (cnt : BitVec 3) : BitVec.ofNat 3 (shiftCount cnt) = cnt := by
  unfold shiftCount
  split
  case isTrue h => rw [h]; rfl
  case isFalse h => simp

theorem countOk_shiftCount (cnt : BitVec 3) : countOk (shiftCount cnt) = true := by
  revert cnt
  decide

theorem countOk_iff (n : Nat) : countOk n = true ↔ 1 ≤ n ∧ n ≤ 8 := by
  simp [countOk]

/-- S of a shift word is made again from its sub-op and its count (R116). -/
theorem shiftSector_shiftCount {sec : Sector} {sub : BitVec 4} (h : shiftSub sec = sub) :
    shiftSector sub (shiftCount (lowBits sec)) = sec := by
  rw [shiftSector, ofNat_shiftCount, ← h, shiftSub_append_lowBits]

/-- S of a special word is made again from its sub-op and S[0] (R116). -/
theorem specialSector_specialBit {sec : Sector} {sub : BitVec 6} (h : specialSub sec = sub) :
    specialSector sub (specialBit sec) = sec := by
  rw [← h, specialSector_specialSub_specialBit]

/-- S of LPR is made again from its P value (R111, R116). -/
theorem lprSector_lowBits {sec : Sector} (h : specialSub sec = 0x1E#6 ∨ specialSub sec = 0x1F#6) :
    lprSector (lowBits sec) = sec := by
  revert sec
  decide

/-! ### The unlisted sub-ops (R233, R312) -/

section Unlisted

variable (m flag : Bool) (sp : NextSector) (c : Channel) {sec : Sector}

/-- R233: a shift sub-op below 8 is a no-op. -/
theorem decodeShift_of_lt (h : (shiftSub sec).toNat < 8) :
    decodeShift m flag sp c sec = .shnop flag sp c (shiftSub sec) (lowBits sec) := by
  unfold decodeShift
  split
  case h_9 => rfl
  all_goals
    rename_i hsub
    rw [hsub] at h
    exact absurd h (by decide)

/-- R312: a special sub-op that R110 does not list in the mode is a no-op. -/
theorem decodeSpecial_of_not_listed (h : listedSpecial m (specialSub sec) = false) :
    decodeSpecial m flag sp c sec = .spnop flag sp c (specialSub sec) (specialBit sec) := by
  unfold decodeSpecial
  split
  case h_10 hsub =>
    rw [hsub] at h ⊢
    cases m with
    | false => rfl
    | true => exact absurd h (by decide)
  case h_20 => rfl
  all_goals
    rename_i hsub
    rw [hsub] at h
    cases m <;> exact absurd h (by decide)

end Unlisted

/-! ### The word of an instruction decodes to it -/

theorem decode_encodeFields_shift (m : Bool) (h : Head) (sec : Sector) :
    decode m (encodeFields 0#4 h sec) = decodeShift m h.flag h.sp h.c sec := by
  rw [decode_of_shift (opField_encodeFields 0#4 h sec)]
  simp

theorem decode_encodeFields_special (m : Bool) (h : Head) (sec : Sector) :
    decode m (encodeFields 8#4 h sec) = decodeSpecial m h.flag h.sp h.c sec := by
  rw [decode_of_special (opField_encodeFields 8#4 h sec)]
  simp

/-- The word of a well-formed shift instruction decodes to it: its count is 1 to 8, or its sub-op is below 8. -/
theorem decodeShift_sector {m : Bool} {i : Instr} (hop : i.opcode = 0#4) (hwf : wellFormed m i = true) :
    decodeShift m i.head.flag i.head.sp i.head.c i.sector = i := by
  cases i with
  | sal flag sp c n | als flag sp c n | sll flag sp c n | sar flag sp c n | ars flag sp c n | slr flag sp c n =>
    obtain ⟨h1, h8⟩ := (countOk_iff n).mp hwf
    simp [Instr.head, Instr.sector, decodeShift, shiftCount_ofNat h1 h8]
  | srl flag sp c n | alc flag sp c n | srr flag sp c n | arc flag sp c n =>
    obtain ⟨hm, hn⟩ := (Bool.and_eq_true _ _).mp hwf
    obtain ⟨h1, h8⟩ := (countOk_iff n).mp hn
    simp_all [Instr.head, Instr.sector, decodeShift, shiftCount_ofNat h1 h8]
  | shnop flag sp c sub cnt =>
    have hsub : (shiftSub (sub ++ cnt)).toNat < 8 := by
      rw [shiftSub_append]
      exact of_decide_eq_true hwf
    exact (decodeShift_of_lt m flag sp c hsub).trans (by simp)
  | coa flag sp c n => exact absurd hwf Bool.false_ne_true
  | _ => exact absurd hop (by simp [Instr.opcode])

/-- The word of a well-formed special instruction decodes to it: LPR's P value is one of its sub-ops' words, and the
no-op's sub-op is not listed in the mode. -/
theorem decodeSpecial_sector {m : Bool} {i : Instr} (hop : i.opcode = 8#4) (hwf : wellFormed m i = true) :
    decodeSpecial m i.head.flag i.head.sp i.head.c i.sector = i := by
  cases i with
  | lpr flag sp c p =>
    have hsub := specialSub_lprSector (of_decide_eq_true hwf)
    simp only [Instr.head, Instr.sector]
    rcases hsub with h | h <;> simp [decodeSpecial, h]
  | spnop flag sp c sub b =>
    have hsub : listedSpecial m (specialSub (specialSector sub b)) = false := by
      rw [specialSub_specialSector]
      exact Bool.not_eq_true' _ ▸ hwf
    exact (decodeSpecial_of_not_listed m flag sp c hsub).trans (by simp)
  | ora flag sp c b =>
    have hm : m = true := hwf
    simp [Instr.head, Instr.sector, decodeSpecial, hm]
  | boc | boa | bob | rsd | hpr | doa | voa | vob | voc | ana | mim | com | dib | dia | hfc | efc =>
    simp [Instr.head, Instr.sector, decodeSpecial]
  | _ => exact absurd hop (by simp [Instr.opcode])

/-- The word made of a well-formed instruction's fields decodes to it, by family. -/
theorem decode_encodeFields {m : Bool} {i : Instr} (hwf : wellFormed m i = true) :
    decode m (encodeFields i.opcode i.head i.sector) = i := by
  by_cases h0 : i.opcode = 0#4
  · rw [h0, decode_encodeFields_shift, decodeShift_sector h0 hwf]
  by_cases h8 : i.opcode = 8#4
  · rw [h8, decode_encodeFields_special, decodeSpecial_sector h8 hwf]
  cases i with
  | scl | op3 | smp | mpy | tmi | cla | tra | sto | sad | add | ssu | sub =>
    simp [decode, Instr.opcode, Instr.head, Instr.sector]
  | tze | div =>
    have hm : m = true := hwf
    simp [decode, Instr.opcode, Instr.head, Instr.sector, hm]
  | tmi2 | mpm =>
    have hm : m = false := by simpa [wellFormed] using hwf
    simp [decode, Instr.opcode, Instr.head, Instr.sector, hm]
  | sal | als | sll | srl | alc | sar | ars | slr | srr | arc | shnop | coa => exact absurd rfl h0
  | _ => exact absurd rfl h8

/-- COA is the one instruction without a word, and it is not well-formed (R232, C3). -/
theorem encode_of_wellFormed {m : Bool} {i : Instr} (hwf : wellFormed m i = true) :
    encode i = some (encodeFields i.opcode i.head i.sector) := by
  cases i with
  | coa flag sp c n => exact absurd hwf Bool.false_ne_true
  | _ => rfl

/-- Settles O3: the word is the one made of the instruction's fields. -/
theorem decodeOfEncodeIsTheInstruction : Obligations.DecodeOfEncodeIsTheInstruction :=
  fun _ _ hwf => ⟨_, encode_of_wellFormed hwf, decode_encodeFields hwf⟩

/-! ### The instruction of a word has the word's fields -/

/-- What `decode` gives for a word: an instruction well-formed in the mode, with the word's opcode, FLAG, Sp, C and
S. -/
structure DecodesTo (m : Bool) (op : Opcode) (h : Head) (sec : Sector) (i : Instr) : Prop where
  wf : wellFormed m i = true
  opcode : i.opcode = op
  head : i.head = h
  sector : i.sector = sec

theorem decodesTo_decodeShift (m flag : Bool) (sp : NextSector) (c : Channel) (sec : Sector) :
    DecodesTo m 0#4 ⟨flag, sp, c⟩ sec (decodeShift m flag sp c sec) := by
  have hcount := countOk_shiftCount (lowBits sec)
  rcases Nat.lt_or_ge (shiftSub sec).toNat 8 with hlt | hge
  · rw [decodeShift_of_lt m flag sp c hlt]
    exact ⟨decide_eq_true hlt, rfl, rfl, shiftSub_append_lowBits sec⟩
  unfold decodeShift
  split
  case h_4 hsub | h_8 hsub => cases m <;> exact ⟨hcount, rfl, rfl, shiftSector_shiftCount hsub⟩
  case h_9 =>
    have hcases : ∀ sub : BitVec 4, 8 ≤ sub.toNat → sub = 8#4 ∨ sub = 9#4 ∨ sub = 10#4 ∨ sub = 11#4 ∨ sub = 12#4 ∨
        sub = 13#4 ∨ sub = 14#4 ∨ sub = 15#4 := by decide
    have hsub := hcases (shiftSub sec) hge
    simp_all
  all_goals
    rename_i hsub
    exact ⟨hcount, rfl, rfl, shiftSector_shiftCount hsub⟩

theorem decodesTo_decodeSpecial (m flag : Bool) (sp : NextSector) (c : Channel) (sec : Sector) :
    DecodesTo m 8#4 ⟨flag, sp, c⟩ sec (decodeSpecial m flag sp c sec) := by
  cases hlisted : listedSpecial m (specialSub sec) with
  | false =>
    rw [decodeSpecial_of_not_listed m flag sp c hlisted]
    exact ⟨by rw [wellFormed, hlisted]; rfl, rfl, rfl, specialSector_specialBit rfl⟩
  | true =>
    unfold decodeSpecial
    split
    case h_10 hsub =>
      cases m with
      | false => exact absurd (hsub ▸ hlisted) (by decide)
      | true => exact ⟨rfl, rfl, rfl, specialSector_specialBit hsub⟩
    case h_18 hsub | h_19 hsub =>
      have hp : specialSub sec = 0x1E#6 ∨ specialSub sec = 0x1F#6 := by simp [hsub]
      exact ⟨decide_eq_true (four_le_lowBits_of_lpr hp), rfl, rfl, lprSector_lowBits hp⟩
    case h_20 => simp_all [listedSpecial]
    all_goals
      rename_i hsub
      exact ⟨rfl, rfl, rfl, specialSector_specialBit hsub⟩

/-- Every word decodes, by its opcode, to a well-formed instruction with the word's fields (R113, R115). -/
theorem decodesTo_decode (m : Bool) (w : Word) :
    DecodesTo m (opField w) ⟨flagField w, spField w, chan w⟩ (sect w) (decode m w) := by
  unfold decode
  split
  case h_1 h => rw [h]; exact decodesTo_decodeShift ..
  case h_9 h => rw [h]; exact decodesTo_decodeSpecial ..
  case h_3 h | h_8 h => rw [h]; cases m <;> exact ⟨rfl, rfl, rfl, rfl⟩
  case h_16 =>
    have h : opField w = 15#4 := by
      generalize opField w = op at *
      revert op
      decide
    rw [h]
    exact ⟨rfl, rfl, rfl, rfl⟩
  all_goals
    rename_i h
    rw [h]
    exact ⟨rfl, rfl, rfl, rfl⟩

/-! ### A word but for its unused bits -/

/-- A word is its five fields and its two unused bits (R101). -/
theorem word_ext_fields {w u : Word} (hop : opField w = opField u) (hflag : flagField w = flagField u)
    (hsp : spField w = spField u) (hc : chan w = chan u) (hsec : sect w = sect u) (hlow : w.toNat % 4 = u.toNat % 4) :
    w = u := by
  apply BitVec.eq_of_toNat_eq
  rw [toNat_word_eq_fields w, toNat_word_eq_fields u, hop, hflag, hsp, hc, hsec, hlow]

section Mask

variable (w : Word) {mask : Word}

/-! A mask keeps every field in which all its bits are 1. -/

theorem opField_and (h : opField mask = 15#4) : opField (w &&& mask) = opField w := by
  rw [opField, BitVec.extractLsb'_and, ← opField, ← opField, h]
  exact BitVec.and_allOnes

theorem flagField_and (h : flagField mask = true) : flagField (w &&& mask) = flagField w := by
  rw [flagField, BitVec.getLsbD_and, ← flagField, ← flagField, h, Bool.and_true]

theorem spField_and (h : spField mask = 15#4) : spField (w &&& mask) = spField w := by
  rw [spField, BitVec.extractLsb'_and, ← spField, ← spField, h]
  exact BitVec.and_allOnes

theorem chan_and (h : chan mask = 63#6) : chan (w &&& mask) = chan w := by
  rw [chan, BitVec.extractLsb'_and, ← chan, ← chan, h]
  exact BitVec.and_allOnes

theorem sect_and (h : sect mask = 127#7) : sect (w &&& mask) = sect w := by
  rw [sect, BitVec.extractLsb'_and, ← sect, ← sect, h]
  exact BitVec.and_allOnes

end Mask

/-- The word made of a word's fields is that word with bits 1..0 cleared (R101). -/
theorem encodeFields_fields (w : Word) :
    encodeFields (opField w) ⟨flagField w, spField w, chan w⟩ (sect w) = w &&& 0xFFFFFC#24 := by
  have hlow : (w &&& 0xFFFFFC#24).toNat % 4 = 0 := by
    rw [BitVec.toNat_and, show 4 = 2 ^ 2 from rfl, Nat.and_mod_two_pow]
    exact Nat.and_zero _
  apply word_ext_fields
  · rw [opField_encodeFields, opField_and w rfl]
  · rw [flagField_encodeFields, flagField_and w rfl]
  · rw [spField_encodeFields, spField_and w rfl]
  · rw [chan_encodeFields, chan_and w rfl]
  · rw [sect_encodeFields, sect_and w rfl]
  · rw [hlow, encodeFields, toNat_append_eq]
    simp

/-- Instructions are read from the four fields and the sector alone, so bits 1..0 do not matter (R112). -/
theorem decode_congr {w u : Word} (hop : opField w = opField u) (hflag : flagField w = flagField u)
    (hsp : spField w = spField u) (hc : chan w = chan u) (hsec : sect w = sect u) (m : Bool) : decode m w = decode m u := by
  unfold decode
  rw [hop, hflag, hsp, hc, hsec]

/-- Settles O4: the instruction has the word's fields, and the word is those fields and its unused bits. -/
theorem encodeOfDecodeIsTheWord : Obligations.EncodeOfDecodeIsTheWord := by
  intro m w
  obtain ⟨hwf, hop, hhead, hsec⟩ := decodesTo_decode m w
  refine ⟨hwf, ?_, ?_⟩
  · rw [encode_of_wellFormed hwf, hop, hhead, hsec, encodeFields_fields]
  · rw [← encodeFields_fields w]
    exact decode_congr (by simp) (by simp) (by simp) (by simp) (by simp) m

/-- Settles O2: each word has the fields of its instruction. -/
theorem workedEncodingsDecode : Obligations.WorkedEncodingsDecode :=
  ⟨fun _ => rfl, fun _ => rfl, fun _ => rfl, fun _ => rfl, rfl, fun _ => rfl, rfl, fun _ => rfl⟩

end Sys2Proof.Proofs
end

section
/-! PROOF. What every step does and what it leaves alone: the sequencing law (R259), the invariant of the CORE, the frame of
every instruction, and the state that no instruction reads. -/

namespace Sys2Proof.Proofs

open Sys2Proof.Machine

/-! ### Every step answers (R251 to R253, R330) -/

theorem step_of_halted {s : State} (h : s.halted = true) : step s = .next s := by
  simp [step, h]

theorem exec_has_next (i : Instr) (s : State) : ∃ t, exec i s = .next t :=
  ⟨_, exec_eq i s⟩

theorem step_has_next (s : State) : ∃ t, step s = .next t := by
  cases h : s.halted with
  | true => exact ⟨s, step_of_halted h⟩
  | false =>
    rw [step_of_running h]
    exact exec_has_next _ s

/-- Settles O8: the equation of `exec` gives the next state. -/
theorem everyStepHasANextState : Obligations.EveryStepHasANextState :=
  ⟨exec_has_next, step_has_next⟩

/-- A step answers the state it was called in, or the one its instruction leaves (R251, R252). -/
theorem step_cases {s t : State} (h : step s = .next t) :
    (s.halted = true ∧ t = s) ∨ (s.halted = false ∧ exec (decode s.d37cMode s.fetch) s = .next t) := by
  cases hs : s.halted with
  | true =>
    rw [step_of_halted hs] at h
    exact .inl ⟨rfl, (Host.Outcome.next.inj h).symm⟩
  | false => exact .inr ⟨rfl, step_of_running hs ▸ h⟩

/-- What `exec` answers, by its main effect. -/
theorem eq_completed_of_exec {i : Instr} {s t : State} (h : exec i s = .next t) :
    t = State.completed (mainEffect s i) i.opcode i.head.flag i.sector
      ((branchTarget s i).getD (s.sequenced i.head.sp)) := by
  rw [exec_eq] at h
  exact (Host.Outcome.next.inj h).symm

/-- Settles O7: `step` and the status both test `halted` first. -/
theorem haltedStepChangesNothing : Obligations.HaltedStepChangesNothing :=
  fun _ => ⟨fun h => ⟨step_of_halted h, by simp [State.stepStatus, h]⟩, fun h => by simp [State.stepStatus, h]⟩

/-- An address off the loop channels that is not populated reads 0 (R74). -/
theorem memRead_of_unpopulated {s : State} {ch sec : Nat} (hloop : loopSize ch = none)
    (hpop : populated s.memSize ch sec = false) : s.memRead ch sec = 0#24 := by
  rw [State.memRead, place_bulkChannel s.memSize hloop, hpop]
  rfl

/-- The word 0 is the shift no-op with Sp = 0 (R233). -/
theorem decode_zero (m : Bool) : decode m 0#24 = .shnop false 0#4 0#6 0#4 0#3 := rfl

/-- Settles O6: a step runs the word of `fetch`, which is 0 where I names no storage. -/
theorem stepRunsTheDecodedInstruction : Obligations.StepRunsTheDecodedInstruction := by
  intro s hrunning
  refine ⟨step_of_running hrunning, fun hloop hpop => ?_⟩
  rw [step_of_running hrunning, State.fetch, memRead_of_unpopulated hloop hpop, decode_zero]

/-! ### What follows the main effect leaves alone (R200, R252, R255 to R257) -/

section Completed

variable (e : State) (op : Opcode) (flag : Bool) (sec : Sector) (dest : Word)

@[simp] theorem completed_regI : (State.completed e op flag sec dest).regI = dest := rfl

@[simp] theorem completed_regN : (State.completed e op flag sec dest).regN = e.regN := by
  unfold State.completed; split <;> simp [State.wordTimeLater]

@[simp] theorem completed_regP : (State.completed e op flag sec dest).regP = e.regP := by
  unfold State.completed; split <;> simp [State.wordTimeLater]

@[simp] theorem completed_halted : (State.completed e op flag sec dest).halted = e.halted := by
  unfold State.completed; split <;> simp [State.wordTimeLater]

@[simp] theorem completed_error : (State.completed e op flag sec dest).error = e.error := by
  unfold State.completed; split <;> simp [State.wordTimeLater]

@[simp] theorem completed_d37cMode : (State.completed e op flag sec dest).d37cMode = e.d37cMode := by
  unfold State.completed; split <;> simp [State.wordTimeLater]

@[simp] theorem completed_memSize : (State.completed e op flag sec dest).memSize = e.memSize := by
  unfold State.completed; split <;> simp [State.wordTimeLater]

@[simp] theorem completed_flagStoreOps : (State.completed e op flag sec dest).flagStoreOps = e.flagStoreOps := by
  unfold State.completed; split <;> simp [State.wordTimeLater]

@[simp] theorem completed_discreteInA : (State.completed e op flag sec dest).discreteInA = e.discreteInA := by
  unfold State.completed; split <;> simp [State.wordTimeLater]

@[simp] theorem completed_discreteInB : (State.completed e op flag sec dest).discreteInB = e.discreteInB := by
  unfold State.completed; split <;> simp [State.wordTimeLater]

@[simp] theorem completed_voltageOut : (State.completed e op flag sec dest).voltageOut = e.voltageOut := by
  unfold State.completed; split <;> simp [State.wordTimeLater]

@[simp] theorem completed_binaryOut : (State.completed e op flag sec dest).binaryOut = e.binaryOut := by
  unfold State.completed; split <;> simp [State.wordTimeLater]

@[simp] theorem completed_countdownEnabled :
    (State.completed e op flag sec dest).countdownEnabled = e.countdownEnabled := by
  unfold State.completed; split <;> simp [State.wordTimeLater]

end Completed

/-- ORA in both modes as a write of A (R304). -/
theorem mainEffect_ora (s : State) (flag : Bool) (sp : NextSector) (c : Channel) (b : Bool) :
    mainEffect s (.ora flag sp c b) =
      { s with regA := if s.d37cMode = true then s.regA ||| s.regL else s.regA } := by
  simp only [mainEffect]
  split <;> rfl

/-! ### What no main effect changes (R33, R35, R39, R41, R42) -/

/-- The elements of the state that no main effect writes: I, which the end of the step writes, and N, the mode, the
parameters and the input latches, which no step writes. -/
structure SameConstants (s e : State) : Prop where
  regI : e.regI = s.regI
  regN : e.regN = s.regN
  d37cMode : e.d37cMode = s.d37cMode
  memSize : e.memSize = s.memSize
  flagStoreOps : e.flagStoreOps = s.flagStoreOps
  discreteInA : e.discreteInA = s.discreteInA
  discreteInB : e.discreteInB = s.discreteInB

theorem mainEffect_sameConstants (s : State) (i : Instr) : SameConstants s (mainEffect s i) := by
  cases i with
  | sto flag sp c sec => constructor <;> simp [mainEffect]
  | ora flag sp c b => rw [mainEffect_ora]; exact ⟨rfl, rfl, rfl, rfl, rfl, rfl, rfl⟩
  | _ => exact ⟨rfl, rfl, rfl, rfl, rfl, rfl, rfl⟩

/-- HPR alone writes the run state (R39, R300). -/
theorem mainEffect_halted (s : State) {i : Instr} (h : ∀ flag sp c b, i ≠ .hpr flag sp c b) :
    (mainEffect s i).halted = s.halted := by
  cases i with
  | hpr flag sp c b => exact absurd rfl (h flag sp c b)
  | sto flag sp c sec => exact State.memWrite_halted ..
  | ora flag sp c b => rw [mainEffect_ora]
  | _ => rfl

/-- LPR alone writes the phase register (R35, R311). -/
theorem mainEffect_regP (s : State) {i : Instr} (h : ∀ flag sp c p, i ≠ .lpr flag sp c p) :
    (mainEffect s i).regP = s.regP := by
  cases i with
  | lpr flag sp c p => exact absurd rfl (h flag sp c p)
  | sto flag sp c sec => exact State.memWrite_regP ..
  | ora flag sp c b => rw [mainEffect_ora]
  | _ => rfl

/-- Settles O53: what follows the main effect writes none of these elements, so the main effect does. -/
theorem onlyTheirOwnInstructionsWrite : Obligations.OnlyTheirOwnInstructionsWrite := by
  intro i s t h
  obtain rfl := eq_completed_of_exec h
  obtain ⟨-, hN, hmode, hsize, hops, hinA, hinB⟩ := mainEffect_sameConstants s i
  simp only [completed_halted, completed_regP, completed_regN, completed_d37cMode, completed_memSize,
    completed_flagStoreOps, completed_discreteInA, completed_discreteInB]
  refine ⟨fun hne => ?_, fun hne => ?_, hN, hmode, hsize, hops, hinA, hinB⟩
  · by_contra! hnot
    exact hne (mainEffect_halted s hnot)
  · by_contra! hnot
    exact hne (mainEffect_regP s hnot)

/-! ### The sequencing law (R255, R259) -/

theorem toNat_sequenced (s : State) (sp : NextSector) :
    (s.sequenced sp).toNat = (chan s.regI).toNat * 2 ^ 9 + sp.toNat * 2 ^ 2 := by
  have hc := (chan s.regI).isLt
  have hsp := sp.isLt
  rw [State.sequenced, BitVec.toNat_ofNat]
  omega

/-- Settles O11: I takes the destination, which is the branch target or else the next-sector location. -/
theorem sequencingLaw : Obligations.SequencingLaw := by
  intro i s t h
  obtain rfl := eq_completed_of_exec h
  rw [completed_regI]
  constructor
  · intro target htarget
    rw [htarget, Option.getD_some]
  · intro hnone
    rw [hnone, Option.getD_none, toNat_sequenced]

/-! ### The invariant of the CORE (R34, R38) -/

/-- The part of the invariant about bulk memory: canonical form, and populated cells only (R38). -/
def BulkCanonical (s : State) : Prop :=
  s.bulk.wf ∧ ∀ x ∈ s.bulk, ∃ ch sec, populated s.memSize ch sec = true ∧ x.1 = ch * 128 + sec

/-- The word is of the form `loc(ch, sec)` (R34). -/
def IsLocation (w : Word) : Prop := w = loc (chan w) (sect w)

theorem inv_iff (s : State) : s.Inv ↔ BulkCanonical s ∧ IsLocation s.regI :=
  ⟨fun ⟨hwf, hpop, hloc⟩ => ⟨⟨hwf, hpop⟩, hloc⟩, fun ⟨⟨hwf, hpop⟩, hloc⟩ => ⟨hwf, hpop, hloc⟩⟩

theorem isLocation_loc (ch : Channel) (sec : Sector) : IsLocation (loc ch sec) := by
  rw [IsLocation, chan_loc, sect_loc]

/-- A memory write names a populated cell, or it leaves bulk memory as it was. -/
theorem bulkCanonical_memWrite {s : State} (ch sec : Nat) (w : Word) (h : BulkCanonical s) :
    BulkCanonical (s.memWrite ch sec w) := by
  obtain ⟨hwf, hpop⟩ := h
  refine ⟨State.memWrite_wf ch sec w hwf, fun x hx => ?_⟩
  rw [State.memWrite_memSize]
  rcases State.memWrite_bulk s ch sec w with hsame | ⟨a, hplace, hwrite⟩
  · exact hpop x (hsame ▸ hx)
  · obtain ⟨hcell, ha⟩ := place_bulk hplace
    rcases Memory.mem_write (hwrite ▸ hx) with rfl | hold
    · exact ⟨ch, sec, hcell, ha⟩
    · exact hpop x hold

theorem bulkCanonical_flagStore {s : State} (sec : Sector) (h : BulkCanonical s) : BulkCanonical (s.flagStore sec) := by
  rcases s.flagStore_cases sec with ⟨-, e⟩ | ⟨-, e⟩ | ⟨ch, se, -, e⟩
  · rwa [e]
  · rw [e]; exact h
  · rw [e]; exact bulkCanonical_memWrite ch se s.regA h

/-- STO alone writes memory in its main effect. -/
theorem bulkCanonical_mainEffect {s : State} (i : Instr) (h : BulkCanonical s) : BulkCanonical (mainEffect s i) := by
  cases i with
  | sto flag sp c sec => exact bulkCanonical_memWrite c.toNat sec.toNat s.regA h
  | ora flag sp c b => rw [mainEffect_ora]; exact h
  | _ => exact h

theorem inv_completed {e : State} {dest : Word} (h : BulkCanonical e) (hdest : IsLocation dest) (op : Opcode) (flag : Bool)
    (sec : Sector) : (State.completed e op flag sec dest).Inv := by
  rw [inv_iff]
  refine ⟨?_, hdest⟩
  unfold State.completed
  split
  · exact bulkCanonical_flagStore sec h
  · exact h

theorem isLocation_sequenced (s : State) (sp : NextSector) : IsLocation (s.sequenced sp) := by
  rw [← State.nextLocation_eq]
  exact isLocation_loc _ _

/-- A control transfer goes to the location of its own fields (R260 to R262). -/
theorem isLocation_branchTarget {s : State} {i : Instr} {target : Word} (h : branchTarget s i = some target) :
    IsLocation target := by
  cases i with
  | tra flag sp c sec =>
    obtain rfl := Option.some.inj h
    exact isLocation_loc c sec
  | tmi flag sp c sec | tmi2 flag sp c sec | tze flag sp c sec =>
    obtain ⟨-, htarget⟩ := Option.ite_none_right_eq_some.mp h
    obtain rfl := Option.some.inj htarget
    exact isLocation_loc c sec
  | _ => cases h

theorem isLocation_destination (s : State) (i : Instr) :
    IsLocation ((branchTarget s i).getD (s.sequenced i.head.sp)) := by
  cases h : branchTarget s i with
  | none => exact isLocation_sequenced s i.head.sp
  | some target => exact isLocation_branchTarget h

/-- Settles O12: the main effect and the flag store keep bulk memory canonical, and I takes a location. -/
theorem everyStepKeepsTheInvariant : Obligations.EveryStepKeepsTheInvariant := by
  intro s t hinv hstep
  rcases step_cases hstep with ⟨-, rfl⟩ | ⟨-, hexec⟩
  · exact hinv
  · obtain ⟨hbulk, -⟩ := (inv_iff s).mp hinv
    obtain rfl := eq_completed_of_exec hexec
    exact inv_completed (bulkCanonical_mainEffect _ hbulk) (isLocation_destination s _) ..

theorem isLocation_zero : IsLocation 0#24 := by
  show (0#24 : Word) = loc (chan 0#24) (sect 0#24)
  decide

theorem inv_init (m : Bool) (size : MemSize) (ops : List Opcode) : (State.init m size ops).Inv :=
  ⟨wf_empty, fun _ hx => absurd hx List.not_mem_nil, isLocation_zero⟩

/-- Settles O13: bulk memory is empty, and I is 0 = loc(0, 0). -/
theorem resetHasTheInvariant : Obligations.ResetHasTheInvariant :=
  ⟨inv_init _ _ _, inv_init⟩

/-! ### What programs can depend on (R33, R35, R40, R46, R48 to R50)

`programView` blanks the state that only the host reads. Every operation of a step can be run on the blanked state instead,
with the same effect on what is not blanked. -/

/-- The state with everything that no instruction reads set to a fixed value. -/
def programView (s : State) : State :=
  { s with
    regN := 0, regP := 0, error := false, discreteOutA := 0, voltageOut := Vector.replicate 4 0,
    binaryOut := Vector.replicate 4 0, detector := false, fineCountdown := 0, countdownEnabled := false,
    currentSector := 0, cycleCount := 0, trace := [] }

/-- Two states are alike to programs exactly if they are equal once blanked. -/
theorem sameToPrograms_iff (s t : State) : SameToPrograms s t ↔ programView s = programView t := by
  constructor
  · rintro ⟨hA, hL, hI, hU, hF, hE, hH, hV, hR, hbulk, hhalted, hmode, hinA, hinB, hsize, hops⟩
    rw [programView, hA, hL, hI, hU, hF, hE, hH, hV, hR, hbulk, hhalted, hmode, hinA, hinB, hsize, hops, programView]
  · intro h
    simp only [programView, State.mk.injEq] at h
    constructor <;> simp only [h]

section ProgramView

variable (s : State)

theorem memRead_programView (ch sec : Nat) : (programView s).memRead ch sec = s.memRead ch sec := by
  show (programView s).readPlace (place s.memSize ch sec) = s.readPlace (place s.memSize ch sec)
  cases place s.memSize ch sec <;> rfl

theorem writePlace_programView (w : Word) (p : Place) :
    (programView s).writePlace w p = programView (s.writePlace w p) := by
  cases p <;> rfl

theorem memWrite_programView (ch sec : Nat) (w : Word) :
    (programView s).memWrite ch sec w = programView (s.memWrite ch sec w) :=
  writePlace_programView s w _

theorem flagStore_programView (sec : Sector) :
    programView ((programView s).flagStore sec) = programView (s.flagStore sec) := by
  unfold State.flagStore
  cases flagDest sec with
  | none => rfl
  | telemetry => rfl
  | store ch se =>
    show programView ((programView s).memWrite ch se s.regA) = programView (s.memWrite ch se s.regA)
    rw [memWrite_programView]
    rfl

theorem branchTarget_programView (i : Instr) : branchTarget (programView s) i = branchTarget s i := by
  cases i <;> rfl

theorem mainEffect_programView (i : Instr) : programView (mainEffect (programView s) i) = programView (mainEffect s i) := by
  cases i with
  | sto flag sp c sec =>
    show programView ((programView s).memWrite c.toNat sec.toNat s.regA) =
      programView (s.memWrite c.toNat sec.toNat s.regA)
    rw [memWrite_programView]
    rfl
  | ora flag sp c b => rw [mainEffect_ora, mainEffect_ora]; rfl
  | _ => rfl

theorem fetch_programView : (programView s).fetch = s.fetch :=
  memRead_programView s (chan s.regI).toNat (sect s.regI).toNat

end ProgramView

theorem flagStore_sameToPrograms {e e' : State} (h : SameToPrograms e e') (sec : Sector) :
    SameToPrograms (e.flagStore sec) (e'.flagStore sec) := by
  rw [sameToPrograms_iff] at h ⊢
  rw [← flagStore_programView e, h, flagStore_programView e']

theorem mainEffect_sameToPrograms {s t : State} (h : SameToPrograms s t) (i : Instr) :
    SameToPrograms (mainEffect s i) (mainEffect t i) := by
  rw [sameToPrograms_iff] at h ⊢
  rw [← mainEffect_programView s, h, mainEffect_programView t]

theorem branchTarget_sameToPrograms {s t : State} (h : SameToPrograms s t) (i : Instr) :
    branchTarget s i = branchTarget t i := by
  rw [sameToPrograms_iff] at h
  rw [← branchTarget_programView s, h, branchTarget_programView t]

theorem fetch_sameToPrograms {s t : State} (h : SameToPrograms s t) : s.fetch = t.fetch := by
  rw [sameToPrograms_iff] at h
  rw [← fetch_programView s, h, fetch_programView t]

/-- Of what programs can depend on, a word time writes I alone. -/
theorem wordTimeLater_sameToPrograms {e e' : State} (h : SameToPrograms e e') (dest : Word) :
    SameToPrograms (e.wordTimeLater dest) (e'.wordTimeLater dest) := by
  rw [sameToPrograms_iff] at h ⊢
  exact congrArg (State.setI · dest) h

theorem completed_sameToPrograms {e e' : State} (h : SameToPrograms e e') (op : Opcode) (flag : Bool) (sec : Sector)
    (dest : Word) :
    SameToPrograms (State.completed e op flag sec dest) (State.completed e' op flag sec dest) := by
  unfold State.completed
  rw [h.flagStoreOps]
  split
  · exact wordTimeLater_sameToPrograms (flagStore_sameToPrograms h sec) dest
  · exact wordTimeLater_sameToPrograms h dest

theorem exec_sameToPrograms {s t s' t' : State} {i : Instr} (h : SameToPrograms s t) (hs : exec i s = .next s')
    (ht : exec i t = .next t') : SameToPrograms s' t' := by
  obtain rfl := eq_completed_of_exec hs
  obtain rfl := eq_completed_of_exec ht
  rw [branchTarget_sameToPrograms h, State.sequenced, State.sequenced, h.regI]
  exact completed_sameToPrograms (mainEffect_sameToPrograms h i) ..

/-- Settles O54: both states fetch one word, and each part of its step keeps them alike. -/
theorem hostOnlyStateNeverReachesPrograms : Obligations.HostOnlyStateNeverReachesPrograms := by
  intro s t h
  obtain ⟨s', hs⟩ := step_has_next s
  obtain ⟨t', ht⟩ := step_has_next t
  refine ⟨s', t', hs, ht, ?_⟩
  rcases step_cases hs with ⟨hhalted, rfl⟩ | ⟨hrunning, hexec⟩
  · rw [step_of_halted (h.halted ▸ hhalted)] at ht
    obtain rfl := Host.Outcome.next.inj ht
    exact h
  · rw [step_of_running (h.halted ▸ hrunning), ← h.d37cMode, ← fetch_sameToPrograms h] at ht
    exact exec_sameToPrograms h hexec ht

end Sys2Proof.Proofs
end

section
/-! PROOF. MPY, SMP and DIV (R182, R184, R186), and what the multiplier and the divider satisfy together (R187 to R189). -/

namespace Sys2Proof.Proofs

open Sys2Proof.Machine

/-! ### MPY and SMP (R182, R184) -/

/-- R105, opcode 5. -/
theorem decode_of_opcode_five {w : Word} (h : opField w = 5#4) (m : Bool) :
    decode m w = .mpy (flagField w) (spField w) (chan w) (sect w) := by
  simp [decode, h]

/-- R105, opcode 4. -/
theorem decode_of_opcode_four {w : Word} (h : opField w = 4#4) (m : Bool) :
    decode m w = .smp (flagField w) (spField w) (chan w) (sect w) := by
  simp [decode, h]

/-- MPY completes the state with the product's two words in A and L. -/
theorem exec_mpy (flag : Bool) (sp : NextSector) (c : Channel) (sec : Sector) (s : State) :
    exec (.mpy flag sp c sec) s =
      .next (State.completed { s with regA := (mulWords s.regA (s.operand c sec)).a,
                                      regL := (mulWords s.regA (s.operand c sec)).l }
        5#4 flag sec (s.sequenced sp)) := by
  rw [← withPair_of_not_error s rfl]
  exact exec_eq (.mpy flag sp c sec) s

/-- SMP completes the state with the reduced product's two words in A and L. -/
theorem exec_smp (flag : Bool) (sp : NextSector) (c : Channel) (sec : Sector) (s : State) :
    exec (.smp flag sp c sec) s =
      .next (State.completed { s with regA := (mulReduced s.regA (s.operand c sec)).a,
                                      regL := (mulReduced s.regA (s.operand c sec)).l }
        4#4 flag sec (s.sequenced sp)) := by
  rw [← withPair_of_not_error s rfl]
  exact exec_eq (.smp flag sp c sec) s

/-- R182: the pair holds the product of the whole magnitudes. -/
theorem mulWords_product (a m : Word) : mag (mulWords a m).a * 2 ^ 23 + mag (mulWords a m).l = mag a * mag m :=
  mulCore_product (mag_lt a) (mag_lt m) _ _

/-- Settles O27: the words MPY writes are those of the multiply unit. -/
theorem mpyProduct : Obligations.MpyProduct :=
  ⟨fun m _ h => decode_of_opcode_five h m, fun flag sp c sec s =>
    ⟨(mulWords s.regA (s.operand c sec)).a, (mulWords s.regA (s.operand c sec)).l, exec_mpy flag sp c sec s,
      mulWords_product _ _, sign_mulCore_a _ _ _ _, sign_mulCore_l _ _ _ _⟩⟩

theorem sign_mulReduced_l (a m : Word) : sign (mulReduced a m).l = false :=
  sign_mulCore_l _ _ _ _

theorem mag10_eq (w : Word) : mag10 w = w.toNat / 2 ^ 14 % 2 ^ 9 := by
  rw [mag10, BitVec.extractLsb'_toNat, Nat.shiftRight_eq_div_pow]

/-- R183, R184: the product of two nine-bit magnitudes fits L, so nothing is left for the magnitude of A. -/
theorem mulReduced_product (a m : Word) :
    mag (mulReduced a m).a = 0 ∧ mag (mulReduced a m).l = mag10 a * mag10 m := by
  have ha : mag10 a < 2 ^ 9 := mag10_eq a ▸ Nat.mod_lt _ (by norm_num)
  have hm : mag10 m < 2 ^ 9 := mag10_eq m ▸ Nat.mod_lt _ (by norm_num)
  have hprod : mag10 a * mag10 m < 2 ^ 9 * 2 ^ 9 := Nat.mul_lt_mul'' ha hm
  have hfits : mag10 a * mag10 m < 2 ^ 23 := by omega
  simp only [mulReduced, mulCore, mag_signMag, Nat.div_eq_of_lt hfits, Nat.mod_eq_of_lt hfits]
  exact ⟨rfl, trivial⟩

/-- Settles O28: the words SMP writes are those of the multiply unit, given nine bits of each magnitude. -/
theorem smpProduct : Obligations.SmpProduct := by
  refine ⟨fun m _ h => decode_of_opcode_four h m, fun flag sp c sec s => ?_⟩
  obtain ⟨hA, hL⟩ := mulReduced_product s.regA (s.operand c sec)
  refine ⟨(mulReduced s.regA (s.operand c sec)).a, (mulReduced s.regA (s.operand c sec)).l, exec_smp flag sp c sec s,
    hA, sign_mulCore_a _ _ _ _, ?_⟩
  rw [toNat_of_not_sign (sign_mulReduced_l _ _), ← mag10_eq, ← mag10_eq]
  exact hL

/-! ### DIV (R186) -/

/-- R107: opcode 7 is DIV in D37C mode. -/
theorem decode_d37c_of_opcode_seven {w : Word} (h : opField w = 7#4) :
    decode true w = .div (flagField w) (spField w) (chan w) (sect w) := by
  simp [decode, h]

theorem exec_div (flag : Bool) (sp : NextSector) (c : Channel) (sec : Sector) (s : State) :
    exec (.div flag sp c sec) s =
      .next (State.completed (s.withPair (divWords s.regA s.regL (s.operand c sec))) 7#4 flag sec (s.sequenced sp)) :=
  exec_eq (.div flag sp c sec) s

/-- R186: a divisor of magnitude 0 changes `error` alone. -/
theorem withPair_divWords_zero (s : State) {m : Word} (h : mag m = 0) :
    s.withPair (divWords s.regA s.regL m) = { s with error := true } := by
  rw [divWords, if_pos h, State.withPair, Bool.or_true]

section Division

variable (a l : Word) {m : Word} (h : mag m ≠ 0)
include h

/-- R186: the quotient is saturated to its 23 bits. -/
theorem mag_divWords_a : mag (divWords a l m).a = min ((mag a * 2 ^ 23 + mag l) / mag m) 0x7FFFFF := by
  have hfits : min ((mag a * 2 ^ 23 + mag l) / mag m) 0x7FFFFF < 2 ^ 23 := (Nat.min_le_right _ _).trans_lt (by norm_num)
  rw [divWords_eq a l h, mag_signMag]
  exact Nat.mod_eq_of_lt hfits

theorem sign_divWords_a : sign (divWords a l m).a = (sign a ^^ sign m) := by
  rw [divWords_eq a l h, sign_signMag]

/-- R186: the remainder is below the divisor, so its 23 bits hold it. -/
theorem mag_divWords_l : mag (divWords a l m).l = (mag a * 2 ^ 23 + mag l) % mag m := by
  have hrem : (mag a * 2 ^ 23 + mag l) % mag m < mag m := Nat.mod_lt _ (Nat.pos_of_ne_zero h)
  have hm := mag_lt m
  rw [divWords_eq a l h, mag_signMag]
  exact Nat.mod_eq_of_lt (hrem.trans hm)

theorem sign_divWords_l :
    sign (divWords a l m).l = if (mag a * 2 ^ 23 + mag l) % mag m = 0 then false else sign a := by
  rw [divWords_eq a l h, sign_signMag]
  split
  case isTrue hzero => rw [decide_eq_true hzero]; rfl
  case isFalse hzero => rw [decide_eq_false hzero]; rfl

theorem divWords_error :
    (divWords a l m).error = decide ((mag a * 2 ^ 23 + mag l) / mag m > 0x7FFFFF) := by
  rw [divWords_eq a l h]

/-- R187: the quotient is over 23 bits exactly when mag(A) ≥ mag(M), as mag(L) alone never reaches 2^23. -/
theorem quotient_overflow_iff : (mag a * 2 ^ 23 + mag l) / mag m > 0x7FFFFF ↔ mag a ≥ mag m := by
  have hl := mag_lt l
  have hquot : 0x7FFFFF < (mag a * 2 ^ 23 + mag l) / mag m ↔ 2 ^ 23 * mag m ≤ mag a * 2 ^ 23 + mag l :=
    Nat.le_div_iff_mul_le (Nat.pos_of_ne_zero h)
  rw [gt_iff_lt, hquot]
  omega

end Division

/-- Settles O30: a divisor of magnitude 0 and any other, by the divider's lemmas. -/
theorem divQuotientAndRemainder : Obligations.DivQuotientAndRemainder := by
  refine ⟨fun _ h => decode_d37c_of_opcode_seven h, fun flag sp c sec s => ⟨fun hzero => ?_, fun hne => ?_⟩⟩
  · rw [exec_div, withPair_divWords_zero s hzero]
  · refine ⟨(divWords s.regA s.regL (s.operand c sec)).a, (divWords s.regA s.regL (s.operand c sec)).l, ?_,
      mag_divWords_a _ _ hne, sign_divWords_a _ _ hne, mag_divWords_l _ _ hne, sign_divWords_l _ _ hne⟩
    rw [exec_div, State.withPair, divWords_error _ _ hne]

/-! ### The division identity (R187, R188) -/

/-- With FLAG clear no flag store follows: the step ends with one word time. -/
theorem completed_flag_false (e : State) (op : Opcode) (sec : Sector) (dest : Word) :
    State.completed e op false sec dest = e.wordTimeLater dest := by
  rw [State.completed, if_neg (by simp)]

/-- A DIV with FLAG clear leaves the divider's pair, and in `error` what was there or what the divider signals. -/
theorem pair_of_exec_div {sp : NextSector} {c : Channel} {sec : Sector} {s t : State}
    (h : exec (.div false sp c sec) s = .next t) :
    t.regA = (divWords s.regA s.regL (s.operand c sec)).a ∧ t.regL = (divWords s.regA s.regL (s.operand c sec)).l ∧
      t.error = (s.error || (divWords s.regA s.regL (s.operand c sec)).error) := by
  rw [exec_div, completed_flag_false] at h
  obtain rfl := Host.Outcome.next.inj h
  exact ⟨rfl, rfl, rfl⟩

/-- R188: without `error` nothing was saturated, so quotient and remainder make up the dividend. -/
theorem divWords_identity {a l m : Word} (herror : (divWords a l m).error = false) :
    mag (divWords a l m).a * mag m + mag (divWords a l m).l = mag a * 2 ^ 23 + mag l ∧
      mag (divWords a l m).l < mag m ∧ sign (divWords a l m).a = (sign a ^^ sign m) ∧
      sign (divWords a l m).l = (if mag (divWords a l m).l = 0 then false else sign a) := by
  have hne : mag m ≠ 0 := by
    intro hzero
    rw [divWords, if_pos hzero] at herror
    exact Bool.noConfusion herror
  rw [divWords_error a l hne, decide_eq_false_iff_not, not_lt] at herror
  rw [mag_divWords_a a l hne, mag_divWords_l a l hne, Nat.min_eq_left herror]
  exact ⟨Nat.div_add_mod' _ _, Nat.mod_lt _ (Nat.pos_of_ne_zero hne), sign_divWords_a a l hne, sign_divWords_l a l hne⟩

/-- Settles O31: the divider signals no error exactly when `error` stays clear. -/
theorem divisionIdentity : Obligations.DivisionIdentity := by
  intro sp c sec s t h
  obtain ⟨hA, hL, herror⟩ := pair_of_exec_div h
  refine ⟨quotient_overflow_iff s.regA s.regL, fun hs ht => ?_⟩
  rw [hs, Bool.false_or, ht] at herror
  rw [hA, hL]
  exact divWords_identity herror.symm

/-! ### The laws of the multiply unit (R189) -/

/-- A multiply with FLAG clear leaves its result in the pair, and `error` as it was. -/
theorem pair_of_exec_multiply {i : Instr} {s t : State} {r : PairResult} {op : Opcode} {sec : Sector} {dest : Word}
    (hi : exec i s = .next (State.completed { s with regA := r.a, regL := r.l } op false sec dest))
    (h : exec i s = .next t) : t.regA = r.a ∧ t.regL = r.l ∧ t.error = s.error := by
  rw [hi, completed_flag_false] at h
  obtain rfl := Host.Outcome.next.inj h
  exact ⟨rfl, rfl, rfl⟩

/-- R189, item 3: multiplication commutes. -/
theorem mulWords_comm (a m : Word) : mulWords a m = mulWords m a := by
  rw [mulWords, mulCore, mulWords, mulCore, Bool.xor_comm, Nat.mul_comm]

/-- R189, item 3: dividing a product by one of its factors gives the other back, with no remainder. -/
theorem divWords_mulWords (a : Word) {m : Word} (h : mag m ≠ 0) :
    divWords (mulWords a m).a (mulWords a m).l m = { a := a, l := 0#24, error := false } := by
  have ha := mag_lt a
  have hprod := mulWords_product a m
  have hsign : sign (mulWords a m).a = (sign a ^^ sign m) := sign_mulCore_a _ _ _ _
  have hquot : mag a * mag m / mag m = mag a := Nat.mul_div_cancel _ (Nat.pos_of_ne_zero h)
  have hrem : mag a * mag m % mag m = 0 := Nat.mul_mod_left _ _
  have hle : mag a ≤ 0x7FFFFF := by omega
  rw [divWords_eq _ _ h, hprod, hsign, hquot, hrem, Nat.min_eq_left hle, Bool.xor_assoc, Bool.xor_self, Bool.xor_false,
    signMag_sign_mag, decide_eq_false (Nat.not_lt.mpr hle), decide_eq_true rfl, Bool.not_true, Bool.false_and]
  rfl

/-- Settles O32: each multiply by the lemmas of its product, and MPY followed by DIV. -/
theorem lawsOfTheMultiplyUnit : Obligations.LawsOfTheMultiplyUnit := by
  intro sp c sec s t
  refine ⟨fun h => ?_, fun h => ?_, fun h => ?_⟩
  · obtain ⟨hA, hL, herror⟩ := pair_of_exec_multiply (exec_mpy false sp c sec s) h
    rw [hA, hL]
    refine ⟨mulWords_product _ _, sign_mulCore_l _ _ _ _, herror, ?_, ?_⟩
    · intro sp' c' sec' u v huA hum hv
      obtain ⟨hvA, hvL, -⟩ := pair_of_exec_multiply (exec_mpy false sp' c' sec' u) hv
      rw [hvA, hvL, huA, hum, mulWords_comm]
      exact ⟨rfl, rfl⟩
    · intro sp' c' sec' u huA huL hum hne
      obtain ⟨v, hv⟩ := exec_has_next (.div false sp' c' sec') u
      obtain ⟨hvA, hvL, hverror⟩ := pair_of_exec_div hv
      rw [huA, huL, hum, divWords_mulWords s.regA hne] at hvA hvL hverror
      exact ⟨v, hv, congrArg mag hvA, congrArg sign hvA, hvL, hverror.trans (Bool.or_false _)⟩
  · obtain ⟨hA, hL, herror⟩ := pair_of_exec_multiply (exec_mpm false sp c sec s) h
    rw [hA, hL]
    exact ⟨mulCore_product (mag_lt _) (mag_lt _) _ _, sign_mulCore_l _ _ _ _, herror⟩
  · obtain ⟨hA, hL, herror⟩ := pair_of_exec_multiply (exec_smp false sp c sec s) h
    obtain ⟨hzero, hprod⟩ := mulReduced_product s.regA (s.operand c sec)
    rw [hA, hL, hzero, hprod, Nat.zero_mul, Nat.zero_add, mag10_eq, mag10_eq]
    exact ⟨rfl, sign_mulReduced_l _ _, herror⟩

end Sys2Proof.Proofs
end

section
/-! PROOF. The fine countdown (R257) and the failure bit `error` (R332, R333): what writes them, and that nothing else of a
step depends on them. -/

namespace Sys2Proof.Proofs

open Sys2Proof.Machine

/-! ### The countdown and `error` are not read (R257, R332, R333) -/

/-- Whether the instruction signals `error` in the state: DIV alone can (R186, R333). -/
def raisesError (s : State) : Instr → Bool
  | .div _ _ c sec => (divWords s.regA s.regL (s.operand c sec)).error
  | _ => false

/-- DIV alone signals `error`. -/
theorem raisesError_of_not_div (s : State) {i : Instr} (h : ∀ flag sp c sec, i ≠ .div flag sp c sec) :
    raisesError s i = false := by
  cases i with
  | div flag sp c sec => exact absurd rfl (h flag sp c sec)
  | _ => rfl

/-- The state with `error` and the fine countdown changed. -/
def withErrorAndCountdown (s : State) (e : Bool) (x : BitVec 24) : State := { s with error := e, fineCountdown := x }

section Unread

variable (s : State) (e : Bool) (x : BitVec 24)

theorem memWrite_withErrorAndCountdown (ch sec : Nat) (w : Word) :
    (withErrorAndCountdown s e x).memWrite ch sec w = withErrorAndCountdown (s.memWrite ch sec w) e x := by
  show (withErrorAndCountdown s e x).writePlace w (place s.memSize ch sec) =
    withErrorAndCountdown (s.writePlace w (place s.memSize ch sec)) e x
  cases place s.memSize ch sec <;> rfl

theorem flagStore_withErrorAndCountdown (sec : Sector) :
    (withErrorAndCountdown s e x).flagStore sec = withErrorAndCountdown (s.flagStore sec) e x := by
  unfold State.flagStore
  cases flagDest sec with
  | none => rfl
  | telemetry => rfl
  | store ch se => exact memWrite_withErrorAndCountdown s e x ch se s.regA

theorem branchTarget_withErrorAndCountdown (i : Instr) : branchTarget (withErrorAndCountdown s e x) i = branchTarget s i := by
  cases i <;> rfl

/-- A main effect leaves the countdown, and to `error` it adds what it raises. -/
theorem mainEffect_withErrorAndCountdown (i : Instr) : mainEffect (withErrorAndCountdown s e x) i =
    withErrorAndCountdown (mainEffect s i) (e || raisesError s i) x := by
  cases i with
  | sto flag sp c sec =>
    rw [raisesError_of_not_div s (by simp), Bool.or_false]
    exact memWrite_withErrorAndCountdown s e x c.toNat sec.toNat s.regA
  | ora flag sp c b =>
    rw [mainEffect_ora, mainEffect_ora, raisesError_of_not_div s (by simp), Bool.or_false]
    rfl
  | smp | mpy | mpm | div => rfl
  | _ =>
    rw [raisesError_of_not_div s (by simp), Bool.or_false]
    rfl

theorem wordTimeLater_withErrorAndCountdown (dest : Word) :
    (withErrorAndCountdown s e x).wordTimeLater dest = withErrorAndCountdown (s.wordTimeLater dest) e
      (BitVec.ofNat 24 (if s.countdownEnabled = true then x.toNat - 1 else x.toNat)) := rfl

theorem completed_withErrorAndCountdown (op : Opcode) (flag : Bool) (sec : Sector) (dest : Word) :
    State.completed (withErrorAndCountdown s e x) op flag sec dest =
      withErrorAndCountdown (State.completed s op flag sec dest) e
        (BitVec.ofNat 24 (if s.countdownEnabled = true then x.toNat - 1 else x.toNat)) := by
  have hops : (withErrorAndCountdown s e x).flagStoreOps = s.flagStoreOps := rfl
  unfold State.completed
  rw [hops, flagStore_withErrorAndCountdown]
  split
  · rw [wordTimeLater_withErrorAndCountdown, State.flagStore_countdownEnabled]
  · exact wordTimeLater_withErrorAndCountdown s e x dest

theorem fetch_withErrorAndCountdown : (withErrorAndCountdown s e x).fetch = s.fetch := by
  show (withErrorAndCountdown s e x).readPlace (place s.memSize (chan s.regI).toNat (sect s.regI).toNat) =
    s.readPlace (place s.memSize (chan s.regI).toNat (sect s.regI).toNat)
  cases place s.memSize (chan s.regI).toNat (sect s.regI).toNat <;> rfl

end Unread

/-- An instruction run with `error` and the countdown changed: the same next state but for the two. -/
theorem exec_withErrorAndCountdown {i : Instr} {s t : State} (h : exec i s = .next t) (e : Bool) (x : BitVec 24) :
    exec i (withErrorAndCountdown s e x) = .next (withErrorAndCountdown t (e || raisesError s i)
      (BitVec.ofNat 24 (if t.countdownEnabled = true then x.toNat - 1 else x.toNat))) := by
  have hdest : (withErrorAndCountdown s e x).sequenced i.head.sp = s.sequenced i.head.sp := rfl
  obtain rfl := eq_completed_of_exec h
  rw [exec_eq, mainEffect_withErrorAndCountdown, branchTarget_withErrorAndCountdown, hdest,
    completed_withErrorAndCountdown, completed_countdownEnabled]

/-- With nothing changed beforehand, the same equation says what the two hold after an instruction. -/
theorem eq_withErrorAndCountdown_of_exec {i : Instr} {s t : State} (h : exec i s = .next t) :
    t = withErrorAndCountdown t (s.error || raisesError s i)
      (BitVec.ofNat 24 (if t.countdownEnabled = true then s.fineCountdown.toNat - 1 else s.fineCountdown.toNat)) :=
  Host.Outcome.next.inj (h.symm.trans (exec_withErrorAndCountdown h s.error s.fineCountdown))

/-- `error` after an instruction: sticky, and raised by what the instruction signals (R332). -/
theorem error_of_exec {i : Instr} {s t : State} (h : exec i s = .next t) : t.error = (s.error || raisesError s i) :=
  congrArg State.error (eq_withErrorAndCountdown_of_exec h)

/-- The countdown after an instruction (R257). -/
theorem fineCountdown_of_exec {i : Instr} {s t : State} (h : exec i s = .next t) : t.fineCountdown =
    BitVec.ofNat 24 (if t.countdownEnabled = true then s.fineCountdown.toNat - 1 else s.fineCountdown.toNat) :=
  congrArg State.fineCountdown (eq_withErrorAndCountdown_of_exec h)

/-- Settles O10: the step fetches the same instruction, and the end of it takes one from an enabled countdown. -/
theorem countdownFallsAfterTheEffect : Obligations.CountdownFallsAfterTheEffect := by
  intro s t hrunning hstep x
  rw [step_of_running hrunning] at hstep
  have hrun : step (withErrorAndCountdown s s.error x) =
      exec (decode s.d37cMode (withErrorAndCountdown s s.error x).fetch) (withErrorAndCountdown s s.error x) :=
    step_of_running hrunning
  rw [fetch_withErrorAndCountdown, exec_withErrorAndCountdown hstep, ← error_of_exec hstep] at hrun
  exact hrun

/-! ### What raises `error` (R186, R333) -/

theorem divWords_error_iff (a l m : Word) : (divWords a l m).error = true ↔ mag m = 0 ∨ mag a ≥ mag m := by
  by_cases h : mag m = 0
  · rw [divWords, if_pos h]
    simp [h]
  · rw [divWords_error a l h, decide_eq_true_iff, quotient_overflow_iff a l h]
    simp [h]

/-- R333: the two conditions, both of DIV. -/
theorem raisesError_iff (s : State) (i : Instr) : raisesError s i = true ↔ setsError s i := by
  cases i with
  | div flag sp c sec => exact divWords_error_iff s.regA s.regL (s.operand c sec)
  | _ => exact iff_of_false Bool.false_ne_true not_false

theorem hostDo_error (s : State) (x : HostAction) : (s.hostDo x).error = s.error := by
  cases x with
  | write ch sec v => exact State.memWrite_error ..
  | setLoop name k v => exact State.memWrite_error ..
  | _ => rfl

/-- Settles O52: what an instruction raises, and what a change of `error` beforehand leaves as it is. -/
theorem errorIsStickyAndUnread : Obligations.ErrorIsStickyAndUnread := by
  refine ⟨hostDo_error, fun _ => rfl, fun _ _ _ => rfl, fun i s t h => ⟨?_, fun x => ⟨x || raisesError s i, ?_⟩⟩⟩
  · rw [error_of_exec h, Bool.or_eq_true, raisesError_iff]
  · have hx := exec_withErrorAndCountdown h x s.fineCountdown
    rw [← fineCountdown_of_exec h] at hx
    exact hx

/-! ### D17B mode (R107) -/

/-- A word decodes to an instruction of its mode, and DIV is not one of D17B mode. -/
theorem decode_d17b_ne_div (w : Word) (flag : Bool) (sp : NextSector) (c : Channel) (sec : Sector) :
    decode false w ≠ .div flag sp c sec := by
  intro h
  have hwf := (decodesTo_decode false w).wf
  rw [h] at hwf
  exact Bool.false_ne_true hwf

/-- In D17B mode a step leaves `error` and the mode as they were. -/
theorem step_d17b {s t : State} (hmode : s.d37cMode = false) (h : step s = .next t) :
    t.d37cMode = false ∧ t.error = s.error := by
  rcases step_cases h with ⟨-, rfl⟩ | ⟨-, hexec⟩
  · exact ⟨hmode, rfl⟩
  · rw [hmode] at hexec
    obtain ⟨-, -, -, hkept, -⟩ := onlyTheirOwnInstructionsWrite _ _ _ hexec
    exact ⟨hkept.trans hmode, by rw [error_of_exec hexec, raisesError_of_not_div s (decode_d17b_ne_div s.fetch), Bool.or_false]⟩

/-- Settles O55, by induction on the length of the run. -/
theorem d17bModeNeverSignalsError : Obligations.D17bModeNeverSignalsError := by
  intro k
  induction k with
  | zero => exact fun s _ herror => herror
  | succ k ih =>
    intro s hmode herror
    obtain ⟨t, ht⟩ := step_has_next s
    obtain ⟨hmode', herror'⟩ := step_d17b hmode ht
    exact ⟨herror, t, ht, ih t hmode' (herror'.trans herror)⟩

end Sys2Proof.Proofs
end

section
/-! PROOF. Memory as the host and the program see it: reads after writes (R75 to R77), the arguments out of range (R78), the
populated cells (R38, R79), and a stored word that is fetched next (R88). -/

namespace Sys2Proof.Proofs

open Sys2Proof.Machine

/-! ### Reads after writes (R75 to R77) -/

/-- Settles O15: by the laws of a memory write, of which the host's write is one. -/
theorem readAfterWrite : Obligations.ReadAfterWrite :=
  fun s _ _ v => ⟨sameButStorage_writePlace s (mask24 v) _, fun _ _ =>
    ⟨memRead_memWrite_of_sameWord (mask24 v), memRead_memWrite_of_not_sameWord (mask24 v)⟩⟩

/-- On a loop channel one storage word has all the sectors equal modulo the loop's size (R73, R84). -/
theorem sameWord_of_loopSize {c n : Nat} (hloop : loopSize c = some n) (size : MemSize) {sec sec' : Nat}
    (h : sec % n = sec' % n) : SameWord size c sec c sec' := by
  refine ⟨rfl, ?_⟩
  rw [hloop]
  exact h

/-- Settles O16: k and k + j*n are one sector modulo n. -/
theorem loopAliasing : Obligations.LoopAliasing := by
  intro s c n k j v hloop _
  have hsame : SameWord s.memSize c k c (k + j * n) :=
    sameWord_of_loopSize hloop s.memSize (Nat.add_mul_mod_self_right k j n).symm
  have hread : (s.hostWrite c k v).hostRead c (k + j * n) = BitVec.ofNat 24 v := memRead_memWrite_of_sameWord _ hsame
  exact ⟨hread, by rw [hread, BitVec.toNat_ofNat]⟩

/-! ### Populated cells (R38, R79) -/

theorem isLoop_eq_false_iff (ch : Nat) : isLoop ch = false ↔ loopSize ch = none := by
  unfold isLoop loopSize
  split_ifs <;> simp_all

/-- R38 as one condition for both sizes. -/
theorem populated_iff (size : MemSize) (ch sec : Nat) : populated size ch sec = true ↔
    ch < 47 ∧ sec < 128 ∧ loopSize ch = none ∧ ch * 128 + sec < size.words := by
  have hbulk : decide (ch < Config.bulkChannels) = true ↔ ch < 47 := decide_eq_true_iff
  simp only [populated, Bool.and_eq_true, hbulk, decide_eq_true_eq, Bool.not_eq_true', isLoop_eq_false_iff, and_assoc]

theorem words_eq (size : MemSize) : size.words = if size = .d37c then 7222 else 2944 := by
  cases size <;> rfl

/-- The 47 bulk channels have 6016 words, so 7222 leave none out. -/
theorem populated_d37c_iff (ch sec : Nat) :
    populated .d37c ch sec = true ↔ ch < 47 ∧ sec < 128 ∧ loopSize ch = none := by
  rw [populated_iff, MemSize.words]
  constructor
  · rintro ⟨hch, hsec, hloop, -⟩
    exact ⟨hch, hsec, hloop⟩
  · rintro ⟨hch, hsec, hloop⟩
    exact ⟨hch, hsec, hloop, by omega⟩

/-- The loop channels are 42 (octal 52) to 58 (octal 72). -/
theorem loopSize_range {ch n : Nat} (h : loopSize ch = some n) : 42 ≤ ch ∧ ch ≤ 58 := by
  unfold loopSize at h
  split_ifs at h <;> omega

theorem loopSize_eq_none {ch : Nat} (h : ch < 42 ∨ 58 < ch) : loopSize ch = none := by
  rw [Option.eq_none_iff_forall_ne_some]
  intro n hn
  have hrange := loopSize_range hn
  omega

/-- 2944 words are the channels 0 to 22. -/
theorem populated_d17b_iff (ch sec : Nat) : populated .d17b ch sec = true ↔ ch < 23 ∧ sec < 128 := by
  rw [populated_iff, MemSize.words]
  constructor
  · rintro ⟨-, hsec, -, hindex⟩
    exact ⟨by omega, hsec⟩
  · rintro ⟨hch, hsec⟩
    exact ⟨by omega, hsec, loopSize_eq_none (.inl (by omega)), by omega⟩

/-- Settles O18: the condition of R38, what it leaves in each size, and an address without a cell. -/
theorem populatedCells : Obligations.PopulatedCells :=
  fun ch sec => ⟨fun size => words_eq size ▸ populated_iff size ch sec, populated_d37c_iff ch sec,
    populated_d17b_iff ch sec, fun _ w hloop hpop =>
      ⟨memRead_of_unpopulated hloop hpop, memWrite_of_unpopulated w hloop hpop⟩⟩

/-! ### The host's arguments (R78) -/

theorem populated_eq_false {size : MemSize} {ch sec : Nat} (h : 47 ≤ ch ∨ 128 ≤ sec) : populated size ch sec = false := by
  rw [← Bool.not_eq_true, populated_iff]
  omega

/-- On a loop channel the sector counts modulo the size (R73). -/
theorem place_mod {ch n : Nat} (size : MemSize) (h : loopSize ch = some n) (sec : Nat) :
    place size ch sec = place size ch (sec % n) :=
  (place_loopSize size h sec (sec % n)).1.mpr (Nat.mod_mod sec n).symm

/-- Settles O17: what names no storage, and what the mux takes modulo the size. -/
theorem hostArgumentsOutOfRange : Obligations.HostArgumentsOutOfRange := by
  intro s ch sec v
  refine ⟨fun hch => ?_, fun _ n hloop => ?_, fun hsec hloop => ?_, fun w => ⟨(chan w).isLt, (sect w).isLt⟩⟩
  · have hpop : populated s.memSize ch sec = false := populated_eq_false (.inl (by omega))
    have hloop : loopSize ch = none := loopSize_eq_none (.inr (by omega))
    exact ⟨memRead_of_unpopulated hloop hpop, memWrite_of_unpopulated _ hloop hpop⟩
  · have hplace := place_mod s.memSize hloop sec
    exact ⟨congrArg s.readPlace hplace, congrArg (s.writePlace (mask24 v)) hplace⟩
  · have hpop : populated s.memSize ch sec = false := populated_eq_false (.inr hsec)
    exact ⟨memRead_of_unpopulated hloop hpop, memWrite_of_unpopulated _ hloop hpop⟩

/-! ### A stored word that is fetched next (R88) -/

/-- A read that finds A finds it after a flag store too, which stores A and nothing else. -/
theorem memRead_flagStore_of_regA {e : State} {ch sec : Nat} (h : e.memRead ch sec = e.regA) (se : Sector) :
    (e.flagStore se).memRead ch sec = e.regA := by
  rcases e.flagStore_cases se with ⟨-, heq⟩ | ⟨-, heq⟩ | ⟨ch', sec', -, heq⟩
  · rw [heq, h]
  · rw [heq]
    exact h
  · rw [heq, State.memRead_memWrite, h, ite_self]

/-- A word time is no memory write. -/
theorem memRead_wordTimeLater (e : State) (dest : Word) (ch sec : Nat) :
    (e.wordTimeLater dest).memRead ch sec = e.memRead ch sec := by
  show (e.wordTimeLater dest).readPlace (place e.memSize ch sec) = e.readPlace (place e.memSize ch sec)
  cases place e.memSize ch sec <;> rfl

theorem memRead_completed_of_regA {e : State} {ch sec : Nat} (h : e.memRead ch sec = e.regA) (op : Opcode) (flag : Bool)
    (se : Sector) (dest : Word) : (State.completed e op flag se dest).memRead ch sec = e.regA := by
  rw [State.completed, memRead_wordTimeLater]
  split
  · exact memRead_flagStore_of_regA h se
  · exact h

/-- Settles O19: STO leaves A at the location that its Sp then puts into I, and a flag store stores A again. -/
theorem storedWordIsFetchedNext : Obligations.StoredWordIsFetchedNext := by
  intro s t flag sp hrunning hsame h
  have hsec : (0#3 ++ sp : Sector).toNat = sp.toNat := by
    rw [toNat_append_eq]
    simp
  have hread : (s.memWrite (chan s.regI).toNat sp.toNat s.regA).memRead (chan s.regI).toNat sp.toNat =
      (s.memWrite (chan s.regI).toNat sp.toNat s.regA).regA := by
    rw [memRead_memWrite_of_sameWord s.regA hsame, State.memWrite_regA]
  rw [exec_sto, hsec, ← State.nextLocation_eq, State.nextLocation] at h
  obtain rfl := Host.Outcome.next.inj h
  rw [step_of_running (by rw [completed_halted, State.memWrite_halted, hrunning]), State.fetch, completed_regI,
    chan_loc, sect_loc, hsec, memRead_completed_of_regA hread, State.memWrite_regA]

end Sys2Proof.Proofs
end

section
/-! PROOF. The laws of saturating addition and subtraction (R149), CLA (R152) and the split compare and limit SCL (R157,
R158). -/

namespace Sys2Proof.Proofs

open Sys2Proof.Machine

/-! ### The laws of `add` and `sub` (R149) -/

theorem sat23_of_gt {x : Int} (h : x > 2 ^ 23 - 1) : sat23 x = 2 ^ 23 - 1 := by
  rw [sat23_eq_clamp]
  omega

theorem sat23_of_lt {x : Int} (h : x < -(2 ^ 23 - 1)) : sat23 x = -(2 ^ 23 - 1) := by
  rw [sat23_eq_clamp]
  omega

/-- Inside the range nothing is saturated. -/
theorem sat23_toSigned (a : Word) : sat23 (toSigned a) = toSigned a := by
  obtain ⟨hlo, hhi⟩ := toSigned_range a
  rw [sat23_eq_clamp]
  omega

/-- The two words of the ends of the range (R142). -/
theorem fromSigned_sat23_of_gt {x : Int} (h : x > 2 ^ 23 - 1) : fromSigned (sat23 x) = 0x7FFFFF#24 := by
  rw [sat23_of_gt h]
  decide

theorem fromSigned_sat23_of_lt {x : Int} (h : x < -(2 ^ 23 - 1)) : fromSigned (sat23 x) = 0xFFFFFF#24 := by
  rw [sat23_of_lt h]
  decide

/-- R145: the complement of a word has the opposite integer. -/
theorem toSigned_complement (b : Word) : toSigned (complement b) = -toSigned b := by
  cases hb : sign b with
  | true => rw [toSigned_of_sign hb, toSigned_of_not_sign (by rw [sign_complement, hb]; rfl), mag_complement, Int.neg_neg]
  | false => rw [toSigned_of_not_sign hb, toSigned_of_sign (by rw [sign_complement, hb]; rfl), mag_complement]

theorem smSub_eq_smAdd_complement (a b : Word) : smSub a b = smAdd a (complement b) := by
  rw [smSub, smAdd, toSigned_complement, Int.sub_eq_add_neg]

theorem smAdd_comm (a b : Word) : smAdd a b = smAdd b a := by
  rw [smAdd, smAdd, Int.add_comm]

/-- A saturated result of integer 0 is plus zero. -/
theorem fromSigned_sat23_of_toSigned_zero {x : Int} (h : toSigned (fromSigned (sat23 x)) = 0) :
    fromSigned (sat23 x) = 0#24 := by
  obtain ⟨hlo, hhi⟩ := sat23_range x
  rw [toSigned_fromSigned hlo hhi] at h
  rw [h]
  decide

/-- Adding a zero of either sign gives the word of the same integer that is not minus zero. -/
theorem smAdd_of_toSigned_zero (a : Word) {z : Word} (h : toSigned z = 0) : smAdd a z = fromSigned (toSigned a) := by
  rw [smAdd, h, Int.add_zero, sat23_toSigned]

/-- R141 undoes R140 but for minus zero. -/
theorem fromSigned_toSigned {a : Word} (h : a ≠ 0x800000#24) : fromSigned (toSigned a) = a := by
  obtain ⟨hlo, hhi⟩ := toSigned_range a
  have hmag : mag (fromSigned (toSigned a)) = (toSigned a).natAbs := mag_fromSigned hlo hhi
  have hsign : sign (fromSigned (toSigned a)) = decide (toSigned a < 0) := sign_signMag _ _
  cases ha : sign a with
  | false =>
    rw [toSigned_of_not_sign ha] at hmag hsign ⊢
    exact word_ext (by rw [hsign, ha, decide_eq_false (by omega)]) (by rw [hmag, Int.natAbs_natCast])
  | true =>
    have hne : mag a ≠ 0 := fun hzero => h (word_ext ha hzero)
    rw [toSigned_of_sign ha] at hmag hsign ⊢
    exact word_ext (by rw [hsign, ha, decide_eq_true (by omega)]) (by rw [hmag, Int.natAbs_neg, Int.natAbs_natCast])

theorem smSub_self (a : Word) : smSub a a = 0#24 := by
  rw [smSub, Int.sub_self]
  decide

/-- R149, item 6: the operands matter by their integers alone. -/
theorem smAdd_smSub_congr {a b a' b' : Word} (ha : toSigned a = toSigned a') (hb : toSigned b = toSigned b') :
    smAdd a b = smAdd a' b' ∧ smSub a b = smSub a' b' := by
  rw [smAdd, smAdd, smSub, smSub, ha, hb]
  exact ⟨rfl, rfl⟩

/-- R149, item 7: an instruction whose main effect is on A alone leaves the status bits. -/
theorem status_of_exec_accumulate {i : Instr} {s t : State} {a : Word} (hmain : mainEffect s i = { s with regA := a })
    (h : exec i s = .next t) : t.error = s.error ∧ t.halted = s.halted ∧ t.d37cMode = s.d37cMode := by
  obtain rfl := eq_completed_of_exec h
  rw [completed_error, completed_halted, completed_d37cMode, hmain]
  exact ⟨rfl, rfl, rfl⟩

/-- Settles O21: the seven items, from the conversions and the saturation. -/
theorem lawsOfAddAndSub : Obligations.LawsOfAddAndSub :=
  ⟨fun _ hlo hhi => toSigned_fromSigned hlo hhi,
    fun _ _ => ⟨fromSigned_sat23_of_gt, fromSigned_sat23_of_lt, fromSigned_sat23_of_gt, fromSigned_sat23_of_lt⟩,
    fun a b => ⟨smAdd_comm a b, smSub_eq_smAdd_complement a b⟩,
    fun _ _ => ⟨fromSigned_sat23_of_toSigned_zero, fromSigned_sat23_of_toSigned_zero⟩,
    fun a => ⟨smAdd_of_toSigned_zero a rfl, smAdd_of_toSigned_zero a rfl, fromSigned_toSigned, smSub_self a⟩,
    fun _ _ _ _ ha hb => smAdd_smSub_congr ha hb,
    fun _ _ _ _ _ _ h => h.elim (status_of_exec_accumulate rfl) (status_of_exec_accumulate rfl)⟩

/-! ### CLA (R152) -/

/-- R105, opcode 9. -/
theorem decode_of_opcode_nine {w : Word} (h : opField w = 9#4) (m : Bool) :
    decode m w = .cla (flagField w) (spField w) (chan w) (sect w) := by
  simp [decode, h]

/-- Settles O22: CLA's main effect is the copy of the operand. -/
theorem claLoadsTheOperand : Obligations.ClaLoadsTheOperand :=
  ⟨fun m _ h => decode_of_opcode_nine h m, fun flag sp c sec s => exec_eq (.cla flag sp c sec) s⟩

/-! ### SCL (R157, R158) -/

/-- R105, opcode 1. -/
theorem decode_of_opcode_one {w : Word} (h : opField w = 1#4) (m : Bool) :
    decode m w = .scl (flagField w) (spField w) (chan w) (sect w) := by
  simp [decode, h]

/-- R158: what the clamped lane is as an integer. The magnitude 2048 of the most negative lane never replaces another, as
no lane has a larger one. -/
theorem toInt_clamp12 (x y : BitVec 12) : (clamp12 x y).toInt =
    if |x.toInt| > |y.toInt| then (if x.toInt < 0 then -|y.toInt| else |y.toInt|) else x.toInt := by
  have hlo : -2048 ≤ x.toInt := BitVec.le_toInt x
  have hhi : x.toInt < 2048 := BitVec.toInt_lt
  have hcond : x.toInt.natAbs > y.toInt.natAbs ↔ |x.toInt| > |y.toInt| := by
    rw [gt_iff_lt, gt_iff_lt, Int.abs_eq_natAbs, Int.abs_eq_natAbs, Int.ofNat_lt]
  unfold clamp12
  simp only [hcond, ← Int.abs_eq_natAbs]
  split
  case isFalse h => rfl
  case isTrue h =>
    have hfits : |y.toInt| < 2048 := lt_of_lt_of_le h (abs_le.mpr ⟨hlo, by omega⟩)
    have hnonneg := abs_nonneg y.toInt
    rw [BitVec.toInt_ofInt]
    apply Int.bmod_eq_of_le
    all_goals split <;> norm_num <;> omega

/-- An instruction whose opcode is outside FLAG_STORE_OPS runs no flag store, whatever its FLAG (R200). -/
theorem exec_of_opcode_not_mem {i : Instr} {s : State} (h : i.opcode ∉ s.flagStoreOps) : exec i s =
    .next ((mainEffect s i).wordTimeLater ((branchTarget s i).getD (s.sequenced i.head.sp))) := by
  rw [exec_eq, completed_of_not_mem]
  rwa [(mainEffect_sameConstants s i).flagStoreOps]

/-- Opcode 1 is not in the default FLAG_STORE_OPS (D13). -/
theorem exec_scl_flag {s : State} (hops : s.flagStoreOps = Config.flagStoreOps) (sp : NextSector) (c : Channel)
    (sec : Sector) : exec (.scl true sp c sec) s = exec (.scl false sp c sec) s := by
  have h1 : 1#4 ∉ s.flagStoreOps := by rw [hops]; decide
  exact (exec_of_opcode_not_mem (i := .scl true sp c sec) h1).trans
    (exec_of_opcode_not_mem (i := .scl false sp c sec) h1).symm

/-- Settles O26: each lane of the word written is the clamp of the lanes of A and of the operand. -/
theorem splitCompareAndLimit : Obligations.SplitCompareAndLimit := by
  refine ⟨fun m _ h => decode_of_opcode_one h m, fun flag sp c sec s =>
    ⟨zipLanes clamp12 s.regA (s.operand c sec), exec_eq (.scl flag sp c sec) s, ⟨?_, ?_⟩,
      fun hops => exec_scl_flag hops sp c sec⟩⟩
  · have hlane : (zipLanes clamp12 s.regA (s.operand c sec)).extractLsb' 12 12 =
        clamp12 (hi s.regA) (hi (s.operand c sec)) := hi_pack _ _
    rw [hlane]
    exact toInt_clamp12 _ _
  · have hlane : (zipLanes clamp12 s.regA (s.operand c sec)).extractLsb' 0 12 =
        clamp12 (lo s.regA) (lo (s.operand c sec)) := lo_pack _ _
    rw [hlane]
    exact toInt_clamp12 _ _

end Sys2Proof.Proofs
end

section
/-! PROOF. The flag store: what each code writes (R201, R203), and that it follows the main effect (R200, R202). -/

namespace Sys2Proof.Proofs

open Sys2Proof.Machine

/-! ### The table of codes (R201, R203) -/

/-- The code of S in numbers (R102). -/
theorem lowBits_eq_iff (sec : Sector) (k : BitVec 3) : lowBits sec = k ↔ sec.toNat % 8 = k.toNat := by
  rw [BitVec.toNat_eq, toNat_lowBits]

theorem flagStore_of_none {s : State} {sec : Sector} (h : flagDest sec = .none) : s.flagStore sec = s := by
  rw [State.flagStore, h]

theorem flagStore_of_telemetry {s : State} {sec : Sector} (h : flagDest sec = .telemetry) :
    s.flagStore sec = s.emit .telemetry := by
  rw [State.flagStore, h]

theorem flagStore_of_store {s : State} {sec : Sector} {ch se : Nat} (h : flagDest sec = .store ch se) :
    s.flagStore sec = s.memWrite ch se s.regA := by
  rw [State.flagStore, h]

/-- Settles O33: the destination of each code, and the storage word that the mux gives it. -/
theorem flagStoreTable : Obligations.FlagStoreTable := by
  intro s sec
  have hsec := sec.isLt
  refine ⟨fun hk => ?_, fun hk => ?_, fun hk => ?_, fun hk => ?_, fun hk => ?_, fun hk => ?_, fun hk => ?_, fun hk => ?_⟩
  · have hdest : flagDest sec = .none := by simp [flagDest, (lowBits_eq_iff sec 0#3).mpr hk]
    exact flagStore_of_none hdest
  · have hdest : flagDest sec = .store 0o52 1 := by
      simp [flagDest, (lowBits_eq_iff sec 1#3).mpr hk, show sec.toNat % 4 = 1 by omega]
    exact flagStore_of_store hdest
  · have hdest : flagDest sec = .telemetry := by simp [flagDest, (lowBits_eq_iff sec 2#3).mpr hk]
    exact flagStore_of_telemetry hdest
  · have hcell : (sec - 2#7).toNat = (sec.toNat + 126) % 128 := by
      rw [BitVec.toNat_sub, Nat.add_comm]
      rfl
    have hdest : flagDest sec = .store 0o50 ((sec.toNat + 126) % 128) := by
      simp [flagDest, (lowBits_eq_iff sec 3#3).mpr hk, hcell]
    exact ⟨flagStore_of_store hdest, by omega⟩
  · have hdest : flagDest sec = .store 0o56 4 := by
      simp [flagDest, (lowBits_eq_iff sec 4#3).mpr hk, hk]
    exact flagStore_of_store hdest
  · have hdest : flagDest sec = .store 0o64 0 := by simp [flagDest, (lowBits_eq_iff sec 5#3).mpr hk]
    exact flagStore_of_store hdest
  · have hdest : flagDest sec = .store 0o54 (sec.toNat % 16) := by
      simp [flagDest, (lowBits_eq_iff sec 6#3).mpr hk]
    rw [flagStore_of_store hdest]
    by_cases heven : sec.toNat / 8 % 2 = 0
    · rw [if_pos heven, show sec.toNat % 16 = 6 by omega]
      rfl
    · rw [if_neg heven, show sec.toNat % 16 = 14 by omega]
      rfl
  · have hdest : flagDest sec = .store 0o60 0 := by simp [flagDest, (lowBits_eq_iff sec 7#3).mpr hk]
    exact flagStore_of_store hdest

/-! ### FLAG acts on the flag store alone (R200, R202, R252)

Two words that differ in FLAG alone decode to instructions with one main effect and one destination. -/

section FlagUnread

variable (s : State) (m flag flag' : Bool) (sp : NextSector) (c : Channel) (sec : Sector)

theorem effect_decodeShift_flag :
    mainEffect s (decodeShift m flag sp c sec) = mainEffect s (decodeShift m flag' sp c sec) ∧
      branchTarget s (decodeShift m flag sp c sec) = branchTarget s (decodeShift m flag' sp c sec) := by
  unfold decodeShift
  split
  case h_4 | h_8 => cases m <;> exact ⟨rfl, rfl⟩
  all_goals exact ⟨rfl, rfl⟩

theorem effect_decodeSpecial_flag :
    mainEffect s (decodeSpecial m flag sp c sec) = mainEffect s (decodeSpecial m flag' sp c sec) ∧
      branchTarget s (decodeSpecial m flag sp c sec) = branchTarget s (decodeSpecial m flag' sp c sec) := by
  unfold decodeSpecial
  split
  case h_10 => cases m <;> exact ⟨rfl, rfl⟩
  all_goals exact ⟨rfl, rfl⟩

end FlagUnread

theorem effect_decode_flag {w u : Word} (hop : opField w = opField u) (hsp : spField w = spField u)
    (hc : chan w = chan u) (hsec : sect w = sect u) (m : Bool) (s : State) :
    mainEffect s (decode m w) = mainEffect s (decode m u) ∧
      branchTarget s (decode m w) = branchTarget s (decode m u) := by
  unfold decode
  rw [hop, hsp, hc, hsec]
  split
  case h_1 => exact effect_decodeShift_flag ..
  case h_9 => exact effect_decodeSpecial_flag ..
  case h_3 | h_8 => cases m <;> exact ⟨rfl, rfl⟩
  all_goals exact ⟨rfl, rfl⟩

/-- The flag store reads and writes nothing that a word time does. -/
theorem flagStore_wordTimeLater (e : State) (sec : Sector) (dest : Word) :
    (e.wordTimeLater dest).flagStore sec = (e.flagStore sec).wordTimeLater dest := by
  unfold State.flagStore
  cases flagDest sec with
  | none => rfl
  | telemetry => rfl
  | store ch se =>
    show (e.wordTimeLater dest).writePlace e.regA (place e.memSize ch se) =
      (e.writePlace e.regA (place e.memSize ch se)).wordTimeLater dest
    cases place e.memSize ch se <;> rfl

/-- FLAG adds the flag store, run on the state that FLAG clear leaves (R200, R202). -/
theorem completed_flag_true (e : State) (op : Opcode) (sec : Sector) (dest : Word) :
    State.completed e op true sec dest = if op ∈ e.flagStoreOps then (State.completed e op false sec dest).flagStore sec
      else State.completed e op false sec dest := by
  rw [completed_flag_false, flagStore_wordTimeLater, State.completed]
  by_cases h : op ∈ e.flagStoreOps
  · rw [if_pos ⟨rfl, h⟩, if_pos h]
  · rw [if_neg (fun hrun => h hrun.2), if_neg h]

/-- What a word does, by its fields and the effect of its instruction. -/
theorem exec_decode (m : Bool) (w : Word) (s : State) : exec (decode m w) s =
    .next (State.completed (mainEffect s (decode m w)) (opField w) (flagField w) (sect w)
      ((branchTarget s (decode m w)).getD (s.sequenced (spField w)))) := by
  obtain ⟨-, hop, hhead, hsec⟩ := decodesTo_decode m w
  rw [exec_eq, hop, hhead, hsec]

/-- Of two words that differ in FLAG alone, the one with FLAG set adds the flag store. -/
theorem exec_decode_flag {w u : Word} (hop : opField w = opField u) (hsp : spField w = spField u)
    (hc : chan w = chan u) (hsec : sect w = sect u) (hclear : flagField w = false) (hset : flagField u = true) {m : Bool}
    {s t : State} (h : exec (decode m w) s = .next t) :
    exec (decode m u) s = .next (if opField u ∈ s.flagStoreOps then t.flagStore (sect u) else t) := by
  obtain ⟨hmain, hbranch⟩ := effect_decode_flag hop hsp hc hsec m s
  rw [exec_decode, hmain, hbranch, hop, hsp, hsec, hclear] at h
  obtain rfl := Host.Outcome.next.inj h
  rw [exec_decode, hset, completed_flag_true, (mainEffect_sameConstants s _).flagStoreOps]

/-- Setting FLAG and then clearing it is clearing it. -/
theorem setFlag_clearFlag (w : Word) : (w ||| 0x080000#24) &&& 0xF7FFFF#24 = w &&& 0xF7FFFF#24 := by
  have hdisjoint : ∀ j < 24, ((0x080000#24).getLsbD j && (0xF7FFFF#24).getLsbD j) = false := by decide
  apply BitVec.eq_of_getLsbD_eq
  intro j hj
  rw [BitVec.getLsbD_and, BitVec.getLsbD_or, BitVec.getLsbD_and, Bool.and_or_distrib_right, hdisjoint j hj, Bool.or_false]

/-- Settles O34: the two masks change FLAG and no other field. -/
theorem flagStoreFollowsTheMainEffect : Obligations.FlagStoreFollowsTheMainEffect := by
  refine ⟨by decide, fun m w s t h => ?_⟩
  have hop : opField (w &&& 0xF7FFFF#24) = opField (w ||| 0x080000#24) := setFlag_clearFlag w ▸ opField_and _ rfl
  have hsp : spField (w &&& 0xF7FFFF#24) = spField (w ||| 0x080000#24) := setFlag_clearFlag w ▸ spField_and _ rfl
  have hc : chan (w &&& 0xF7FFFF#24) = chan (w ||| 0x080000#24) := setFlag_clearFlag w ▸ chan_and _ rfl
  have hsec : sect (w &&& 0xF7FFFF#24) = sect (w ||| 0x080000#24) := setFlag_clearFlag w ▸ sect_and _ rfl
  have hclear : flagField (w &&& 0xF7FFFF#24) = false := by simp [flagField]
  have hset : flagField (w ||| 0x080000#24) = true := by simp [flagField]
  have hrun := exec_decode_flag hop hsp hc hsec hclear hset h
  rwa [← hop, ← hsec, opField_and w rfl, sect_and w rfl] at hrun

end Sys2Proof.Proofs
end

section
/-! PROOF. The no-ops (R233, R264, R312), HPR (R300), and the output instructions: characters (R232), voltages (R309) and
binary outputs (R310). -/

namespace Sys2Proof.Proofs

open Sys2Proof.Machine

/-! ### COA (R232) -/

/-- A word decodes to a well-formed instruction, and COA is not one. -/
theorem decode_ne_coa (m : Bool) (w : Word) (flag : Bool) (sp : NextSector) (c : Channel) (n : Nat) :
    decode m w ≠ .coa flag sp c n := by
  intro h
  have hwf := (decodesTo_decode m w).wf
  rw [h] at hwf
  exact Bool.false_ne_true hwf

theorem lowFourBits_eq (w : Word) : w.extractLsb' 0 4 = BitVec.ofNat 4 (w.toNat % 16) := by
  apply BitVec.eq_of_toNat_eq
  rw [BitVec.extractLsb'_toNat, BitVec.toNat_ofNat, Nat.shiftRight_zero, Nat.mod_mod]

/-- Settles O39: COA's main effect is the event of the low four bits of A. -/
theorem characterOutput : Obligations.CharacterOutput := by
  refine ⟨decode_ne_coa, fun flag sp c n s => ?_⟩
  rw [← lowFourBits_eq]
  exact exec_eq (.coa flag sp c n) s

/-! ### The no-ops (R233, R264, R312) -/

/-- R105, opcode 3. -/
theorem decode_of_opcode_three {w : Word} (h : opField w = 3#4) (m : Bool) :
    decode m w = .op3 (flagField w) (spField w) (chan w) (sect w) := by
  simp [decode, h]

/-- R233: S below 64 is a sub-op below 8. -/
theorem decode_shnop {w : Word} (hop : opField w = 0#4) (hsec : (sect w).toNat < 64) (m : Bool) :
    decode m w = .shnop (flagField w) (spField w) (chan w) (shiftSub (sect w)) (lowBits (sect w)) := by
  have hsub : (shiftSub (sect w)).toNat < 8 := by
    rw [shiftSub, BitVec.extractLsb'_toNat, Nat.shiftRight_eq_div_pow]
    omega
  rw [decode_of_shift hop, decodeShift_of_lt m _ _ _ hsub]

/-- The sub-ops of R312 are listed by R110 in neither mode. -/
theorem listedSpecial_eq_false : ∀ (m : Bool) (sub : BitVec 6),
    (sub.toNat ∈ [0x00, 0x02, 0x03, 0x06, 0x07, 0x0A, 0x0F, 0x16, 0x17, 0x1A, 0x1B, 0x1C, 0x1D] ∨ 0x20 ≤ sub.toNat) →
    listedSpecial m sub = false := by
  decide

theorem decode_spnop {w : Word} (hop : opField w = 8#4) {m : Bool} (hsub : listedSpecial m (specialSub (sect w)) = false) :
    decode m w = .spnop (flagField w) (spField w) (chan w) (specialSub (sect w)) (specialBit (sect w)) := by
  rw [decode_of_special hop, decodeSpecial_of_not_listed m _ _ _ hsub]

/-- An instruction without a main effect or a branch only ends its step; with its opcode outside the default FLAG_STORE_OPS
no flag store is run. -/
theorem exec_of_noEffect {i : Instr} {s : State} (hmain : mainEffect s i = s) (hbranch : branchTarget s i = none)
    (hops : i.opcode ∉ Config.flagStoreOps) :
    exec i s = .next (State.completed s i.opcode i.head.flag i.sector (s.sequenced i.head.sp)) ∧
      (s.flagStoreOps = Config.flagStoreOps → exec i s = .next (s.wordTimeLater (s.sequenced i.head.sp))) := by
  refine ⟨by rw [exec_eq, hmain, hbranch]; rfl, fun h => ?_⟩
  rw [exec_of_opcode_not_mem (h ▸ hops), hmain, hbranch]
  rfl

/-- Settles O41: the words of each no-op, and that it has no effect of its own. -/
theorem noOps : Obligations.NoOps :=
  ⟨fun m w => ⟨fun hop hsec => decode_shnop hop hsec m, fun hop => decode_of_opcode_three hop m,
      fun hop hsub => decode_spnop hop (listedSpecial_eq_false m _ hsub)⟩,
    decode_zero, fun _ _ _ => memRead_of_unpopulated, rfl, fun flag sp c s =>
    ⟨fun sub cnt => exec_of_noEffect (i := .shnop flag sp c sub cnt) rfl rfl (by decide : 0#4 ∉ Config.flagStoreOps),
      fun sec => exec_of_noEffect (i := .op3 flag sp c sec) rfl rfl (by decide : 3#4 ∉ Config.flagStoreOps),
      fun sub b => exec_of_noEffect (i := .spnop flag sp c sub b) rfl rfl (by decide : 8#4 ∉ Config.flagStoreOps)⟩⟩

/-! ### HPR (R300) -/

/-- Settles O43: the main effect sets `halted`, which the end of the step keeps. -/
theorem hprHalts : Obligations.HprHalts := by
  refine ⟨fun _ => ⟨rfl, rfl⟩, fun flag sp c b s => ⟨_, rfl, exec_eq (.hpr flag sp c b) s, ?_⟩⟩
  exact (haltedStepChangesNothing _).1 (completed_halted ..)

/-! ### Voltages and binary outputs (R309, R310) -/

/-- No main effect writes the last entry of the voltage latches (D24). -/
theorem mainEffect_voltageOut (s : State) (i : Instr) : (mainEffect s i).voltageOut[3] = s.voltageOut[3] := by
  cases i with
  | voa flag sp c b | vob flag sp c b | voc flag sp c b => exact Vector.getElem_set_ne (by decide) (by decide) (by decide)
  | sto flag sp c sec => simp [mainEffect]
  | ora flag sp c b => rw [mainEffect_ora]
  | _ => rfl

/-- No main effect writes the last entry of the binary latches (D24). -/
theorem mainEffect_binaryOut (s : State) (i : Instr) : (mainEffect s i).binaryOut[3] = s.binaryOut[3] := by
  cases i with
  | boa flag sp c b | bob flag sp c b | boc flag sp c b => exact Vector.getElem_set_ne (by decide) (by decide) (by decide)
  | sto flag sp c sec => simp [mainEffect]
  | ora flag sp c b => rw [mainEffect_ora]
  | _ => rfl

/-- The shifted A has sign 0, so its integer is its number (D25). -/
theorem toSigned_shiftRight (a : Word) : toSigned (a >>> (15 : Nat)) = ((a.toNat / 2 ^ 15 : Nat) : Int) := by
  have ha := a.isLt
  have hnat : (a >>> (15 : Nat)).toNat = a.toNat / 2 ^ 15 := by rw [BitVec.toNat_ushiftRight, Nat.shiftRight_eq_div_pow]
  rw [toSigned_eq, hnat, if_neg (by omega)]

/-- Nine bits fit the latch's signed sixteen (R309). -/
theorem toInt_voltageOf (a : Word) : (voltageOf a).toInt = toSigned (a >>> (15 : Nat)) := by
  have ha := a.isLt
  rw [voltageOf, BitVec.toInt_ofInt, toSigned_shiftRight]
  apply Int.bmod_eq_of_le
  all_goals norm_num
  all_goals omega

/-- Settles O49: the nine bits that each main effect writes, and the entry that none does. -/
theorem voltageOutput : Obligations.VoltageOutput := by
  refine ⟨fun i s t h => ?_, fun _ => ⟨rfl, rfl, rfl⟩, fun flag sp c b s =>
    ⟨voltageOf s.regA, toInt_voltageOf s.regA, (toInt_voltageOf s.regA).trans (toSigned_shiftRight s.regA),
      exec_eq (.voa flag sp c b) s, exec_eq (.vob flag sp c b) s, exec_eq (.voc flag sp c b) s⟩⟩
  obtain rfl := eq_completed_of_exec h
  simp only [completed_voltageOut, mainEffect_voltageOut]

theorem toNat_topBits (a : Word) : (topBits a).toNat = a.toNat / 2 ^ 22 := by
  have ha := a.isLt
  rw [topBits, BitVec.extractLsb'_toNat, Nat.shiftRight_eq_div_pow]
  omega

/-- Settles O50: the two bits that each main effect writes, and the entry that none does. -/
theorem binaryOutput : Obligations.BinaryOutput := by
  refine ⟨fun i s t h => ?_, fun _ => ⟨rfl, rfl, rfl⟩, fun flag sp c b s =>
    ⟨topBits s.regA, toNat_topBits s.regA, exec_eq (.boa flag sp c b) s, exec_eq (.bob flag sp c b) s,
      exec_eq (.boc flag sp c b) s⟩⟩
  obtain rfl := eq_completed_of_exec h
  simp only [completed_binaryOut, mainEffect_binaryOut]

end Sys2Proof.Proofs
end

section
/-! PROOF. The host's operations: reset and construction (R360 to R362), the register surface (R56), `run` (R265), and the
disassembly of a word (R120). -/

namespace Sys2Proof.Proofs

open Sys2Proof.Machine

/-! ### Reset and construction (R360 to R362) -/

theorem replicate_getElem_fin {α : Type} {n : Nat} (x : α) (k : Fin n) : (Vector.replicate n x)[k] = x :=
  Vector.getElem_replicate k.isLt

/-- Settles O56: reset is the construction with memory and trace put back. -/
theorem resetZeroesAllButMemoryAndMode : Obligations.ResetZeroesAllButMemoryAndMode :=
  fun s => ⟨s.resetOp, rfl, rfl, rfl, rfl, rfl, rfl, rfl,
    fun k => ⟨replicate_getElem_fin _ k, replicate_getElem_fin _ k, replicate_getElem_fin _ k,
      replicate_getElem_fin _ k, replicate_getElem_fin _ k⟩,
    replicate_getElem_fin _, replicate_getElem_fin _, rfl, rfl, rfl, rfl, rfl, rfl, rfl, rfl, rfl, rfl, rfl, rfl, rfl, rfl,
    rfl⟩

/-- After construction every storage word is 0 (R360, R363). -/
theorem memRead_init (m : Bool) (size : MemSize) (ops : List Opcode) (ch sec : Nat) :
    (State.init m size ops).memRead ch sec = 0#24 := by
  unfold State.memRead
  cases place (State.init m size ops).memSize ch sec with
  | loopF k | loopH k | loopE k | loopV k | loopR k => exact replicate_getElem_fin _ k
  | loopU | regL | bulk a | nothing => rfl

/-- Off the loop channels a reset changes no word (R361, D10). -/
theorem memRead_resetOp {s : State} {ch : Nat} (h : loopSize ch = none) (sec : Nat) :
    s.resetOp.memRead ch sec = s.memRead ch sec := by
  show s.resetOp.readPlace (place s.memSize ch sec) = s.readPlace (place s.memSize ch sec)
  rw [place_bulkChannel s.memSize h]
  split <;> rfl

theorem loc_zero : loc 0#6 0#7 = 0#24 := by decide

/-- Settles O57: the construction by its definition, and the first fetch from channel 0, which reset keeps. -/
theorem initAndTheResetVector : Obligations.InitAndTheResetVector := by
  refine ⟨fun _ _ _ _ => rfl, memRead_init, rfl, fun s => ⟨rfl, loc_zero.symm, ?_⟩⟩
  have hI : s.resetOp.regI = loc 0#6 0#7 := loc_zero.symm
  rw [step_of_running rfl, State.fetch, hI, chan_loc, sect_loc]
  exact congrArg (fun w => exec (decode s.d37cMode w) s.resetOp) (memRead_resetOp (ch := 0) rfl 0)

/-! ### The register surface (R56) -/

/-- No host write changes the run state, `error`, the mode or the counters (D11). -/
theorem hostDo_status (s : State) (x : HostAction) :
    (s.hostDo x).halted = s.halted ∧ (s.hostDo x).d37cMode = s.d37cMode ∧
      (s.hostDo x).cycleCount = s.cycleCount ∧ (s.hostDo x).currentSector = s.currentSector := by
  cases x with
  | write ch sec v | setLoop name k v =>
    exact ⟨State.memWrite_halted .., State.memWrite_d37cMode .., State.memWrite_cycleCount ..,
      State.memWrite_currentSector ..⟩
  | _ => exact ⟨rfl, rfl, rfl, rfl⟩

/-- A memory write keeps the invariant: bulk memory stays canonical, and I as it was. -/
theorem inv_memWrite {s : State} (h : s.Inv) (ch sec : Nat) (w : Word) : (s.memWrite ch sec w).Inv := by
  obtain ⟨hbulk, hloc⟩ := (inv_iff s).mp h
  exact (inv_iff _).mpr ⟨bulkCanonical_memWrite ch sec w hbulk, by rwa [State.memWrite_regI]⟩

/-- The host writes I as a location, and bulk memory through the mux alone. -/
theorem inv_hostDo {s : State} (h : s.Inv) (x : HostAction) : (s.hostDo x).Inv := by
  obtain ⟨hbulk, hloc⟩ := (inv_iff s).mp h
  cases x with
  | write ch sec v => exact inv_memWrite h ch sec (mask24 v)
  | setLoop name k v => exact inv_memWrite h name.channel k (mask24 v)
  | setI ch sec => exact (inv_iff _).mpr ⟨hbulk, isLocation_loc ch sec⟩
  | _ => exact (inv_iff _).mpr ⟨hbulk, hloc⟩

/-- Settles O58: each write goes to one element, by the mux for memory and the loops. -/
theorem hostActionsKeepTheStatus : Obligations.HostActionsKeepTheStatus := by
  intro s x
  obtain ⟨hhalted, hmode, hcycles, hsector⟩ := hostDo_status s x
  exact ⟨hhalted, hostDo_error s x, hmode, hcycles, hsector, fun h => inv_hostDo h x⟩

/-! ### `run` (R265) -/

theorem run_of_halted {s : State} (h : s.halted = true) (k : Nat) : run k s = .next (.halted, s) := by
  cases k <;> simp [run, h]

theorem run_succ_of_running {s t : State} (h : s.halted = false) (hstep : step s = .next t) (k : Nat) :
    run (k + 1) s = run k t := by
  simp [run, h, hstep]

/-- A machine whose step stays where it is does so for any number of steps. -/
theorem coreRun_of_stays {M : Host.Core} {s : M.State} (h : M.step s = .next s) (k : Nat) : M.run k s = .next s := by
  induction k with
  | zero => rfl
  | succ k ih => rw [Host.Core.run, h]; exact ih

theorem coreRun_succ {M : Host.Core} {s t : M.State} (h : M.step s = .next t) (k : Nat) : M.run (k + 1) s = M.run k t := by
  rw [Host.Core.run, h]

/-- Settles O59, by induction on the budget: halted already, or one step and a run of the rest. -/
theorem runExecutesItsBudget : Obligations.RunExecutesItsBudget := by
  intro k
  induction k with
  | zero =>
    intro s
    refine ⟨_, s, rfl, ?_, le_rfl, fun _ => rfl, rfl⟩
    cases s.halted <;> simp
  | succ k ih =>
    intro s
    cases hs : s.halted with
    | true =>
      exact ⟨.halted, s, run_of_halted hs (k + 1), iff_of_true rfl hs, Nat.le_add_right _ _, fun h => (nomatch h),
        coreRun_of_stays (M := Sys2Proof.core) (step_of_halted hs) (k + 1)⟩
    | false =>
      obtain ⟨u, hstep⟩ := step_has_next s
      obtain ⟨-, hcycles⟩ := wordTimePassesEveryStep s u hs hstep
      obtain ⟨status, t, hrun, hhalted, hle, hspent, hcore⟩ := ih u
      refine ⟨status, t, ?_, hhalted, by omega, fun h => ?_, ?_⟩
      · rw [run_succ_of_running hs hstep, hrun]
      · rw [hspent h, hcycles]
        omega
      · exact (coreRun_succ (M := Sys2Proof.core) hstep k).trans hcore

/-! ### Disassembly (R120) -/

theorem length_octalDigits (k n : Nat) : (octalDigits k n).length = k := by
  induction k generalizing n with
  | zero => rfl
  | succ k ih => rw [octalDigits, List.length_append, ih]; rfl

/-- The eight octal digits are eight characters. -/
theorem octalDigit_inj : ∀ a < 8, ∀ b < 8, Char.ofNat (48 + a) = Char.ofNat (48 + b) → a = b := by decide

/-- `k` octal digits show a number modulo 8^k. -/
theorem octalDigits_inj {k n m : Nat} (h : octalDigits k n = octalDigits k m) : n % 8 ^ k = m % 8 ^ k := by
  induction k generalizing n m with
  | zero => rw [pow_zero, Nat.mod_one, Nat.mod_one]
  | succ k ih =>
    obtain ⟨hhigh, hlast⟩ := List.append_inj' h rfl
    have hdigit : n % 8 = m % 8 :=
      octalDigit_inj _ (Nat.mod_lt _ (by norm_num)) _ (Nat.mod_lt _ (by norm_num)) (List.head_eq_of_cons_eq hlast)
    rw [pow_succ', Nat.mod_mul, Nat.mod_mul, hdigit, ih hhigh]

/-- The name and the flag mark of a word. -/
def nameAndMark (op : Opcode) (flag : Bool) : List Char :=
  (familyName op).toList ++ if flag then ['*'] else []

theorem toList_disassemble (w : Word) : (disassemble w).toList = nameAndMark (opField w) (flagField w) ++
    (' ' :: octalDigits 2 (chan w).toNat ++ ',' :: octalDigits 3 (sect w).toNat) := by
  unfold disassemble nameAndMark
  cases flagField w <;> simp

theorem familyName_inj : ∀ op op' : Opcode, (familyName op).toList = (familyName op').toList → op = op' := by decide

/-- No name ends in the flag mark. -/
theorem familyName_ne_marked : ∀ op op' : Opcode, (familyName op).toList ≠ (familyName op').toList ++ ['*'] := by
  decide

theorem nameAndMark_inj {op op' : Opcode} {flag flag' : Bool} (h : nameAndMark op flag = nameAndMark op' flag') :
    op = op' ∧ flag = flag' := by
  cases flag <;> cases flag'
  case false.false => exact ⟨familyName_inj op op' (List.append_cancel_right h), rfl⟩
  case true.true => exact ⟨familyName_inj op op' (List.append_cancel_right h), rfl⟩
  case false.true => exact absurd ((List.append_nil _).symm.trans h) (familyName_ne_marked op op')
  case true.false => exact absurd ((List.append_nil _).symm.trans h.symm) (familyName_ne_marked op' op)

/-- Two channels of one pair of digits are equal: 64 is the number of pairs. -/
theorem chan_of_octalDigits {c c' : Channel} (h : octalDigits 2 c.toNat = octalDigits 2 c'.toNat) : c = c' := by
  have hc := c.isLt
  have hc' := c'.isLt
  have hmod := octalDigits_inj h
  exact BitVec.eq_of_toNat_eq (by omega)

theorem sect_of_octalDigits {sec sec' : Sector} (h : octalDigits 3 sec.toNat = octalDigits 3 sec'.toNat) :
    sec = sec' := by
  have hsec := sec.isLt
  have hsec' := sec'.isLt
  have hmod := octalDigits_inj h
  exact BitVec.eq_of_toNat_eq (by omega)

/-- Settles O60: the digits have fixed places at the end, and what stands before them shows OP and FLAG. -/
theorem disassemblyShowsTheFields : Obligations.DisassemblyShowsTheFields := by
  intro w u
  rw [← String.toList_inj, toList_disassemble, toList_disassemble]
  constructor
  · intro h
    obtain ⟨hname, hfields⟩ := List.append_inj' h (by simp [length_octalDigits])
    obtain ⟨hop, hflag⟩ := nameAndMark_inj hname
    obtain ⟨hchan, hsect⟩ := List.append_inj (List.tail_eq_of_cons_eq hfields) (by simp only [length_octalDigits])
    exact ⟨hop, hflag, chan_of_octalDigits hchan, sect_of_octalDigits (List.tail_eq_of_cons_eq hsect)⟩
  · rintro ⟨hop, hflag, hchan, hsect⟩
    rw [hop, hflag, hchan, hsect]

end Sys2Proof.Proofs
end
